-- ==== Sys2Proof/Word.lean ====
section
/-! DEFINITION. The words and numbers of the RL-264 (spec 00_scope.md, 3.2): bytes, serials, step sequences,
drop, branch and generator numbers. -/

namespace Sys2Proof

/-- One byte of a frame or store record, and one symbol of a burst (12.4: a burst symbol carries 8 bits). -/
abbrev Byte := BitVec 8

/-- A terminal serial: 48 bits, nonzero wherever a record holds one (3.2). -/
abbrev Serial := BitVec 48

/-- A 12-step sequence: step 1 is bit 11 and step 12 is bit 0, with 1 for lit (R184). -/
abbrev Steps := BitVec 12

/-- A drop number 0..63 (3.2). -/
abbrev Drop := Fin 64

/-- A branch number 0..3, and the number of the branch's lane (3.2). -/
abbrev Branch := Fin 4

/-- A trace generator number 0..7 (R107). -/
abbrev Gen := Fin 8

/-- Drop d lies on branch d div 16 (3.2, R1). -/
def Drop.branch (d : Drop) : Branch := ⟨d.val / 16, by have := d.isLt; omega⟩

/-- All drops in ascending order. -/
def allDrops : List Drop := List.finRange 64

/-- All branches in ascending order. -/
def allBranches : List Branch := List.finRange 4

/-- All generators in ascending order. -/
def allGens : List Gen := List.finRange 8

end Sys2Proof
end

