-- ==== Sys2Proof/Config.lean ====
section
/-! DEFINITION. The sizes the RL-264 fixes. The spec leaves no result of a command undefined, so there is no free value
here. Everything a test could show wrong (codes, thresholds, ranges) stands under Machine/. -/

namespace Sys2Proof.Config

/-- An activation queue holds at most 6 jobs (R26). -/
def queueLimit : Nat := 6

/-- An arrivals list holds at most 8 arrivals (R96). -/
def arrivalsLimit : Nat := 8

/-- A field port holds at most 8 claims (R133). -/
def claimLimit : Nat := 8

/-- A store record has four commit marks (R147, R148). -/
def commitMarks : Nat := 4

/-- The top value of the saturating counts (3.3). -/
def countTop : Nat := 255

/-- A request frame carries at most 40 parameter bytes (R175). -/
def maxParams : Nat := 40

end Sys2Proof.Config
end

