-- ==== Sys2Proof/Syntax.lean ====
section
/-! DEFINITION. The commands of the RL-264: one constructor of `Instr` per row of spec/opcode_table.json, each with the
operands its rule gives it. -/

namespace Sys2Proof

/-- The three management ports (1.3). -/
inductive Port where
  | uplink
  | field1
  | field2
deriving DecidableEq, Repr

/-- One request frame with an agreeing check (R175): the port, the master's tag and the raw parameter bytes. -/
structure Request where
  port : Port
  tag : Byte
  params : List Byte
  /-- Its start marker came while the port took frames, after the last reset and after the last response went out (R170,
  R174, R176). -/
  inTime : Bool
deriving DecidableEq, Repr

/-- A frame that begins on a port and is discarded (R175). -/
structure LostFrame where
  port : Port
  /-- As for a request frame. -/
  inTime : Bool
deriving DecidableEq, Repr

/-- The three verdicts of the header's correcting code (R82). The code itself is not given by the manual. -/
inductive HeaderVerdict where
  | noError
  | corrected
  | doubleError
deriving DecidableEq, Repr

/-- A burst header as the correcting code gives it (R82): its verdict, and symbols 9 to 16 as they stand after a
correction, the first of them most significant. Decode.lean reads their fields (12.4). -/
structure Header where
  verdict : HeaderVerdict
  symbols : BitVec 64
deriving DecidableEq, Repr

/-- The preamble tolerance setting (R80). -/
inductive Tolerance where
  | strict | lenient
deriving DecidableEq, Repr

/-- The lane recovery setting (R81). -/
inductive LaneRecovery where
  | auto | close
deriving DecidableEq, Repr

/-- How far a burst has come when a command about it is taken (R78 to R83, log entry 11). A burst is one command with
`ended`, or up to five commands of its row that differ in this alone and rise to `ended`. -/
inductive BurstPart where
  /-- The transceiver has reported light. -/
  | begun
  /-- The eighth preamble symbol has been received. -/
  | preamble
  /-- The header has been received whole. -/
  | header
  /-- L + 4 symbols have been received after the header, and the light has not ended. -/
  | grace
  /-- The transceiver has reported the end of the light. -/
  | ended
deriving DecidableEq, Repr

/-- One upstream burst as the receiver sees it, whole, and the part of it that has come (R77 to R84). -/
structure Burst where
  /-- For each preamble symbol received, first to eighth, whether it differs from the fixed one (R80). -/
  preambleErrors : List Bool
  /-- How far the burst has come: the checks that this part allows are made at this command (R79). -/
  upTo : BurstPart
  /-- The header, or none when the light ended before it was received whole (R83). -/
  header : Option Header
  /-- The symbols received after the header until the light ended: payload, check and what follows (R83). -/
  body : List Byte
  /-- The preamble began while the lane's receiver was taking bursts: after STARTED (R78) and not while CLOSED (R92). What
  the receiver has seen of the burst itself counts beside this (log entry 12). -/
  inTime : Bool
deriving DecidableEq, Repr

/-- The commands: the rows of spec/opcode_table.json. -/
inductive Instr where
  -- requests (R142, 11.6)
  | readIdentity (r : Request)
  | readEntry (r : Request)
  | readArrivals (r : Request)
  | readQueue (r : Request)
  | readGenerator (r : Request)
  | readLane (r : Request)
  | readUnknownKinds (r : Request)
  | readSettings (r : Request)
  | readSupply (r : Request)
  | readStore (r : Request)
  | readClaims (r : Request)
  | readEvents (r : Request)
  | readResetCause (r : Request)
  | plan (r : Request)
  | unplan (r : Request)
  | withdraw (r : Request)
  | unblock (r : Request)
  | setOffset (r : Request)
  | clearSilence (r : Request)
  | activate (r : Request)
  | cancel (r : Request)
  | trace (r : Request)
  | untrace (r : Request)
  | claim (r : Request)
  | renew (r : Request)
  | release (r : Request)
  | revoke (r : Request)
  | commit (r : Request)
  | releaseSlot (r : Request)
  | saveSettings (r : Request)
  | setSetting (r : Request)
  | setMode (r : Request)
  | setAlertMask (r : Request)
  | clearLane (r : Request)
  | clearUnknownKinds (r : Request)
  | forgetArrival (r : Request)
  | restart (r : Request)
  -- the port link (R175 to R177)
  | unknownRequest (kind : Byte) (r : Request)
  | badFrame (f : LostFrame)
  | frameLengthOver (f : LostFrame)
  | linkIdleTimeout (f : LostFrame)
  | responseSent (p : Port)
  -- upstream bursts (chapter 4); `kind` is the number the terminal sent, and the part reads the one received
  | hello (b : Branch) (x : Burst)
  | matchReply (b : Branch) (x : Burst)
  | rangeReply (b : Branch) (x : Burst)
  | presence (b : Branch) (x : Burst)
  | unknownKindBurst (b : Branch) (kind : BitVec 4) (x : Burst)
  | badBurst (b : Branch) (kind : BitVec 4) (x : Burst)
  | closedLaneBurst (b : Branch) (kind : BitVec 4) (x : Burst)
  -- branch timers (chapters 2 and 3)
  | openCallDue (b : Branch)
  | openCallEnd (b : Branch)
  | matchListenEnd (b : Branch)
  | rangeListenTimeout (b : Branch)
  | rangeCounterOverflow (b : Branch)
  | admitWaitExpiry (b : Branch)
  -- the trace frame (chapter 6, R40)
  | frameMark
  | traceStep
  | waitTraceCountDone (b : Branch)
  -- supervision ticks (chapters 5, 7 and 8)
  | presenceTick
  | silenceLimitReached (d : Drop)
  | minuteTick
  | arrivalAgeOut (b : Branch) (serial : Serial)
  | claimLapse (d : Drop)
  -- store and start-up (chapters 9 and 10)
  | storeWriteComplete
  | startupScanEnd
  -- supply and pin (chapter 10); the level is the sensed voltage in units of 0.1 V
  | supplyLevel (units : Nat)
  | pinAssert
  | pinRelease
deriving DecidableEq, Repr

end Sys2Proof
end

