-- ==== Sys2Proof/Decode.lean ====
section
/-! DEFINITION. The fields of a burst header in its symbols, read and placed (12.4), the order of a burst's parts, and the
commands that words spell: no row of spec/opcode_table.json gives bits (every row's "fields" is empty), so no word spells a
command. -/

namespace Sys2Proof

/-! Burst headers (12.4): symbol 9 holds the kind in bits 7..4, the provider tag in bits 3..1 and an unused bit 0; symbols 10
to 15 hold the serial and symbol 16 the payload length, most significant symbol first. -/

/-- The kind number, symbol 9 bits 7..4. -/
def Header.kind (h : Header) : BitVec 4 := h.symbols.extractLsb' 60 4

/-- The provider tag, symbol 9 bits 3..1; bit 0 is ignored (R185). -/
def Header.tag (h : Header) : BitVec 3 := h.symbols.extractLsb' 57 3

/-- The serial, symbols 10 to 15. -/
def Header.serial (h : Header) : Serial := h.symbols.extractLsb' 8 48

/-- The payload length, symbol 16. -/
def Header.length (h : Header) : Byte := h.symbols.extractLsb' 0 8

/-- Symbols 9 to 16 of a header with the given fields and a clear unused bit. -/
def headerSymbols (kind : BitVec 4) (tag : BitVec 3) (serial : Serial) (length : Byte) : BitVec 64 :=
  kind ++ tag ++ 0#1 ++ serial ++ length

/-- The order in which the parts of a burst come (R77, R78). -/
def BurstPart.rank : BurstPart → Nat
  | .begun => 0 | .preamble => 1 | .header => 2 | .grace => 3 | .ended => 4

/-- The kind number a burst's header carries. -/
def Burst.kind? (x : Burst) : Option (BitVec 4) := x.header.map Header.kind

/-! Words -/

/-- The command that the word `w` of `nbits` bits spells by the table's bits: none, for every word. -/
def decodeTableWord (_nbits _w : Nat) : Option Instr := none

end Sys2Proof
end

