-- ==== Sys2Proof/Machine/State.lean ====
section
/-! DEFINITION. The state of the RL-264 as plain data, and its reset value. INVENTORY.md lists every field with the rule
that names it. -/

namespace Sys2Proof.Machine

/-- The state of a roster entry (Table 1-2, in its order). -/
inductive EntryState where
  | vacant | planned | binding | ranging | bound | active | silent | blocked
deriving DecidableEq, Repr

/-- The offset source of an entry (R6). -/
inductive OffsetSource where
  | working | store
deriving DecidableEq, Repr

/-- The last result of an entry (R13, in the order of Table 1-1). -/
inductive LastResult where
  | none | done | noAnswer | crossed | providerOff | providerMismatch | levelLow | levelHigh | rangeFar
  | noPresence | cancelled | moved | held
deriving DecidableEq, Repr

/-- The store status of an entry (R16, in the order of Table 1-1). -/
inductive StoreStatus where
  | none | matches | differs | suspect
deriving DecidableEq, Repr

/-- The presence record of an ACTIVE or SILENT entry (R122). -/
structure PresenceRecord where
  running : Nat
  lastInterval : Nat
  divisor : Nat
  silenceLimit : Nat
  frozen : Bool
  heardWhileSilent : Bool
deriving DecidableEq, Repr

/-- A roster entry (Table 1-1). Its job field, store status and commit count are views of the queue, the slot image and
the slot (R11, R15, R16): `State.jobField`, `State.storeStatus`, `State.commitCount`. -/
structure Entry where
  state : EntryState
  plot : Nat
  provider : Nat
  serial : Option Serial
  lastSerial : Option Serial
  workingOffset : Nat
  offsetSource : OffsetSource
  lastLevel : Option Nat
  roundTrip : Option Nat
  delay : Option Nat
  presence : Option PresenceRecord
  levelDrift : Bool
  rejoinPending : Bool
  lastResult : LastResult
deriving DecidableEq, Repr

/-- The entry values after a reset, before the scan (Table 1-5). -/
def Entry.empty : Entry where
  state := .vacant
  plot := 0
  provider := 0
  serial := none
  lastSerial := none
  workingOffset := 64
  offsetSource := .working
  lastLevel := none
  roundTrip := none
  delay := none
  presence := none
  levelDrift := false
  rejoinPending := false
  lastResult := .none

/-- The kind of a job (R27). -/
inductive JobKind where
  | activate | rejoin
deriving DecidableEq, Repr

/-- The stage of a job (R27). -/
inductive Stage where
  | waiting | waitTrace | matching | range | admitting
deriving DecidableEq, Repr

/-- The requester of a job (R27): a port, or "roster" for a rejoin. -/
inductive Requester where
  | port (p : Port)
  | roster
deriving DecidableEq, Repr

/-- A job of an activation queue (R27). -/
structure Job where
  drop : Drop
  kind : JobKind
  stage : Stage
  requester : Requester
  attempts : Nat
deriving DecidableEq, Repr

/-- The state of a branch's window (R35). -/
inductive Window where
  | none | openCall | matchListen | rangeListen
deriving DecidableEq, Repr

/-- The decision that goes with the decided serial (R51). -/
inductive Decision where
  | succeeded | unheard
deriving DecidableEq, Repr

/-- The range counter of the binding state, with its overflow mark (R51, R60). -/
structure RangeCounter where
  count : Nat
  overflow : Bool
deriving DecidableEq, Repr

/-- A Branch Controller: the activation queue, the window, the open-call timer and the binding state (R26 to R37, R51). -/
structure BranchCtl where
  queue : List Job
  window : Window
  /-- The length in ms of the listening period in progress (R38, R53, R60). -/
  listenMs : Option Nat
  openDue : Bool
  /-- The open-call timer: stopped, or running for this many times 100 ms (R37). -/
  openTimer : Option Nat
  /-- The frame marks counted by the WAIT_TRACE job whose generator is attached (R40). -/
  frameMarks : Option Nat
  decided : Option (Serial × Decision)
  rangeCounter : Option RangeCounter
  /-- The admit wait in ms, as it was started (R51, R64). -/
  admitWait : Option Nat
deriving DecidableEq, Repr

/-- A Branch Controller after a reset (R28, R51). -/
def BranchCtl.empty : BranchCtl where
  queue := []
  window := .none
  listenMs := none
  openDue := false
  openTimer := none
  frameMarks := none
  decided := none
  rangeCounter := none
  admitWait := none

/-- The downstream calls (R75). -/
inductive Call where
  | openCall (b : Branch)
  | matchCall (code : Steps)
  | rangeCall (serial : Serial)
  | admitCall (serial : Serial) (delay : Nat) (provider : Nat)
  | withdraw (serial : Serial)
deriving DecidableEq, Repr

/-- The 13 lane fault kinds (R90, in its order). -/
inductive FaultKind where
  | preambleFixed | preambleLost | headerFixed | headerBad | checkBad | short | overrun | stray | unknownKind
  | providerOffSeen | unboundPresence | unheard | doubleReply
deriving DecidableEq, Repr

/-- A burst that a receiver is taking (R78), with what was read when its preamble began. -/
structure Reception where
  /-- The tolerance in force when the preamble began (R80). -/
  tolerance : Tolerance
  /-- The part of the burst that the receiver has been told of. -/
  upTo : BurstPart
  /-- The range counter when the preamble began (R61, R77); none with no counter running then, and where a RANGE_CALL has
  gone out on the branch since. -/
  counter : Option RangeCounter
  /-- The receiver takes the burst: no part of it has come before STARTED or on a CLOSED lane, and no reset has been taken
  since its begin (R78, R91, R92). A burst that is not taken is followed to its end alone. -/
  taken : Bool
deriving DecidableEq, Repr

/-- A Burst Receiver: the lane fault record and the lane state (R90), and the model's record of the calls sent on the
lane (R75). -/
structure Lane where
  /-- The fault flags: bit n is the n-th kind of R90. -/
  flags : BitVec 13
  count : Nat
  /-- The provider-seen set: tag t is bit t. -/
  seen : BitVec 8
  closed : Bool
  /-- The burst of which a part has come and the end has not (R78). -/
  rx : Option Reception
  /-- The model's own record of the lane's output: every call sent, oldest first. -/
  calls : List Call
deriving DecidableEq, Repr

/-- An arrival (R97). -/
structure Arrival where
  serial : Serial
  tag : BitVec 3
  rawLevel : Nat
  observation : Option Steps
  age : Nat
  hellos : Nat
  providerOff : Bool
deriving DecidableEq, Repr

/-- The arrivals list of a branch, oldest first, and its missed count (R96). -/
structure ArrivalsList where
  items : List Arrival
  missed : Nat
deriving DecidableEq, Repr

/-- The Unknown-Kind Table (R94). -/
structure UnknownTable where
  entries : Vector (Option (Branch × BitVec 4)) 4
  overflow : Bool
deriving DecidableEq, Repr

/-- The two field ports (3.1). -/
inductive FieldPort where
  | field1 | field2
deriving DecidableEq, Repr

/-- A field claim (R133). -/
structure Claim where
  holder : FieldPort
  lease : Nat
deriving DecidableEq, Repr

/-- The owner of an attached generator (R107): the port whose TRACE attached it, or the binding of a branch. -/
inductive Owner where
  | port (p : Port)
  | binding (b : Branch)
deriving DecidableEq, Repr

/-- The echo record of a generator (R118). -/
structure EchoRecord where
  count : Nat
  first : Option (Serial × Branch)
  wrongBranch : Bool
  boundElsewhere : Bool
  multiple : Bool
deriving DecidableEq, Repr

/-- A cleared echo record (R118). -/
def EchoRecord.cleared : EchoRecord := ⟨0, none, false, false, false⟩

/-- A trace generator (R107). The attached drop and the owner are present together. -/
structure Generator where
  attached : Option (Drop × Owner)
  pattern : Steps
  length : Nat
  echo : EchoRecord
deriving DecidableEq, Repr

/-- A generator after a reset (R107). -/
def Generator.empty : Generator := ⟨none, 0, 12, .cleared⟩

/-- A running frame timer: the width in ms of the frame in progress, and its present step 1..12 (R109, R110). -/
structure FrameTimer where
  width : Nat
  step : Nat
deriving DecidableEq, Repr

/-- The two modes a node may be set to, resume into and start in (R144). -/
inductive RunMode where
  | survey | live
deriving DecidableEq, Repr

/-- The node mode (R144). -/
inductive Mode where
  | survey | live | hold
deriving DecidableEq, Repr

/-- The monitor state (10.2). -/
inductive MonitorState where
  | ok | low
deriving DecidableEq, Repr

/-- The alarm level setting (R162). -/
inductive AlarmLevel where
  | a1 | a2 | a3
deriving DecidableEq, Repr

/-- The monitor mode setting (R163, R165). -/
inductive MonitorMode where
  | alarm | reset
deriving DecidableEq, Repr

/-- The node settings (R180, in the order of its table). -/
structure Settings where
  openPeriod : Nat
  stepWidth : Nat
  acceptLow : Nat
  acceptHigh : Nat
  span : Nat
  divisor : Nat
  silenceLimit : Nat
  lease : Nat
  ageLimit : Nat
  /-- The provider enable set: tag t is bit t. -/
  providers : BitVec 8
  /-- The record set: bit n is the n-th fault kind of R90. -/
  record : BitVec 13
  recovery : LaneRecovery
  tolerance : Tolerance
  alarm : AlarmLevel
  monitorMode : MonitorMode
  startMode : RunMode
deriving DecidableEq, Repr

/-- The factory settings (R180). -/
def Settings.factory : Settings where
  openPeriod := 20
  stepWidth := 80
  acceptLow := 24
  acceptHigh := 84
  span := 3200
  divisor := 2
  silenceLimit := 60
  lease := 20
  ageLimit := 10
  providers := 0xFE
  record := 0x1FFF
  recovery := .auto
  tolerance := .strict
  alarm := .a2
  monitorMode := .alarm
  startMode := .survey

/-- The sixteen events (R181, in its order). -/
inductive Event where
  | jobDone | jobFailed | arrival | arrivalsFull | silence | levelDrift | moved | laneFault | unknownKind
  | rejoinWaiting | storeDone | storeSuspect | supplyLow | supplyOk | started | claimEnded
deriving DecidableEq, Repr

/-- The statuses of a response (11.5, in its order). -/
inductive Status where
  | ok | queued | accepted | alreadyHeld | notPermitted | mode | claimed | notClaimed | claimLimit | lapsed
  | wrongState | jobPending | queueFull | noGenerator | patternInUse | badPattern | badParameter | storeBusy
  | storeSpent | supplyLow | starting | notFound | unknownRequest
deriving DecidableEq, Repr

/-- A response frame (11.2): the tag and kind of the request it answers, the status and the data. -/
structure Response where
  tag : Byte
  kind : Byte
  status : Status
  data : List Byte
deriving DecidableEq, Repr

/-- The answer state of a port (R174): READY, or ANSWERING with the response that has yet to go out. A held RESTART has
none yet (R172). -/
inductive AnswerState where
  | ready
  | answering (response : Option Response)
deriving DecidableEq, Repr

/-- The reset-cause record (R168). -/
structure ResetCauses where
  powerOn : Bool
  supply : Bool
  pin : Bool
  command : Bool
deriving DecidableEq, Repr

/-- The record of a port (R174). -/
structure PortRecord where
  answer : AnswerState
  /-- The event copy: bit n is the n-th event of R181. -/
  events : BitVec 16
  mask : BitVec 16
  causes : ResetCauses
  badFrames : Nat
  /-- The port ignores bytes until the link has been idle for 20 ms (R175). -/
  ignoring : Bool
  /-- The model's own record of the port's output: every response that has gone out, oldest first. -/
  sent : List Response
deriving DecidableEq, Repr

/-- What a FILLED slot body holds (R147). -/
structure FilledBody where
  plot : Nat
  provider : Nat
  serial : Serial
  offset : Nat
  delay : Nat
  seq : Nat
deriving DecidableEq, Repr

/-- A slot body (R147). -/
inductive SlotBody where
  | empty (seq : Nat)
  | filled (b : FilledBody)
deriving DecidableEq, Repr

/-- A store record in non-volatile memory (R147, R148): the number of commit marks written, the body bytes, the check,
and whether its last write was cut short by a reset (R152). -/
structure StoreRecord where
  marks : Nat
  body : List Byte
  check : BitVec 16
  cut : Bool
deriving DecidableEq, Repr

/-- A record that has never been written. -/
def StoreRecord.blank : StoreRecord := ⟨0, [], 0, false⟩

/-- The image of a slot (R147). -/
inductive SlotImage where
  | never
  | empty (seq : Nat)
  | filled (b : FilledBody)
  | torn
deriving DecidableEq, Repr

/-- The header image (R148). -/
inductive HeaderImage where
  | never | good | suspect
deriving DecidableEq, Repr

/-- A write in flight, with the snapshot taken at its acceptance (R154 to R156). -/
inductive Write where
  | slot (d : Drop) (body : SlotBody)
  | header (settings : Settings) (estateId : BitVec 32)
deriving DecidableEq, Repr

/-- The state of the Store Controller (R151). -/
inductive Controller where
  | idle
  | writing (w : Write)
  | scanning
deriving DecidableEq, Repr

/-- The start-up state (R167). During SCANNING it also says whether the scan has read the header (R157, R178). -/
inductive Startup where
  | held
  | scanning (headerRead : Bool)
  | running
deriving DecidableEq, Repr

/-- The state of the RL-264. -/
structure State where
  -- the command queue, first in first out (the model's own)
  pending : List Instr
  -- Reset and Start-up Control
  startup : Startup
  powerOnHold : Bool
  supplyHold : Bool
  pinHold : Bool
  keepThresholds : Bool
  restart : Option Byte
  -- Supply Monitor and Mode Control
  supply : Nat
  monitor : MonitorState
  mode : Mode
  resume : RunMode
  -- Settings
  settings : Settings
  estateId : BitVec 32
  unsaved : Bool
  -- Port Unit
  ports : Vector PortRecord 3
  -- Drop Roster and Claim Table
  roster : Vector Entry 64
  claims : Vector (Option Claim) 64
  lapses : Vector (BitVec 64) 2
  -- branches and lanes
  branches : Vector BranchCtl 4
  lanes : Vector Lane 4
  arrivals : Vector ArrivalsList 4
  /-- The arrival age limit as read at the last minute tick; none before the first (R103). -/
  ageLimitRead : Option Nat
  unknown : UnknownTable
  -- Trace Unit and Presence Supervisor
  generators : Vector Generator 8
  lastServed : Branch
  frame : Option FrameTimer
  baseTick : Nat
  -- Commissioning Store and Store Controller
  slots : Vector StoreRecord 64
  header : StoreRecord
  images : Vector SlotImage 64
  headerImage : HeaderImage
  nextSeq : Nat
  controller : Controller
deriving DecidableEq, Repr

/-- The reasons a step could stop with a fault: none. No rule of the spec ends a run. -/
inductive Fault where
deriving DecidableEq, Repr

/-- The reasons a step could be refused. -/
inductive Refusal where
  /-- Raised by a refused arm of `exec` alone, for a command that has no meaning yet (safe). No arm uses it. -/
  | notModelled (mnemonic : String)
deriving DecidableEq, Repr

/-- The outcome of a command. -/
abbrev Result := Host.Outcome State Fault Refusal

/-- A port after the first power-on reset (R168, R174). -/
def PortRecord.afterPowerOn : PortRecord where
  answer := .ready
  events := 0
  mask := 0
  causes := ⟨true, false, false, false⟩
  badFrames := 0
  ignoring := false
  sent := []

/-- The machine right after the power-on reset, its hold just released: the start-up scan runs (R151, R167; log entries 3
to 5 name the values the spec does not give). -/
def State.reset : State where
  pending := []
  startup := .scanning false
  powerOnHold := false
  supplyHold := false
  pinHold := false
  keepThresholds := false
  restart := none
  supply := 90
  monitor := .ok
  mode := .survey
  resume := .survey
  settings := .factory
  estateId := 0
  unsaved := false
  ports := Vector.replicate 3 .afterPowerOn
  roster := Vector.replicate 64 .empty
  claims := Vector.replicate 64 none
  lapses := Vector.replicate 2 0
  branches := Vector.replicate 4 .empty
  lanes := Vector.replicate 4 ⟨0, 0, 0, false, none, []⟩
  arrivals := Vector.replicate 4 ⟨[], 0⟩
  ageLimitRead := none
  unknown := ⟨Vector.replicate 4 none, false⟩
  generators := Vector.replicate 8 .empty
  lastServed := 3
  frame := none
  baseTick := 0
  slots := Vector.replicate 64 .blank
  header := .blank
  images := Vector.replicate 64 .never
  headerImage := .never
  nextSeq := 1
  controller := .scanning

end Sys2Proof.Machine
end

