-- ==== Sys2Proof/Machine/Flags.lean ====
section
/-! DEFINITION. Flag computations: event copies and alert lines (11.4), lane fault flags (R90), provider tag sets, lapse
marks, saturating counts (3.3), and the 16-bit cyclic check of frames, bursts and store records (R84, R147, 12.2). -/

namespace Sys2Proof

/-- The position of a port in the Port Unit's records. -/
def Port.index : Port → Fin 3
  | .uplink => 0 | .field1 => 1 | .field2 => 2

/-- The field port a port is, none for the Uplink. -/
def Port.field : Port → Option Machine.FieldPort
  | .uplink => none | .field1 => some .field1 | .field2 => some .field2

end Sys2Proof

namespace Sys2Proof.Machine

/-- A count that saturates at 255 rises by one (3.3). -/
def satInc (n : Nat) : Nat := min Config.countTop (n + 1)

/-! Events (R181) and alert lines (R183) -/

/-- The event's row in the table of R181, counting from 0 (R184). -/
def Event.index : Event → Nat
  | .jobDone => 0 | .jobFailed => 1 | .arrival => 2 | .arrivalsFull => 3
  | .silence => 4 | .levelDrift => 5 | .moved => 6 | .laneFault => 7
  | .unknownKind => 8 | .rejoinWaiting => 9 | .storeDone => 10 | .storeSuspect => 11
  | .supplyLow => 12 | .supplyOk => 13 | .started => 14 | .claimEnded => 15

/-- The set that holds the event alone. -/
def Event.bit (e : Event) : BitVec 16 := 1#16 <<< e.index

/-- The port a field port is (3.1). -/
def FieldPort.port : FieldPort → Port
  | .field1 => .field1 | .field2 => .field2

/-- The position of a field port in the Claim Table's sets of lapse marks. -/
def FieldPort.index : FieldPort → Fin 2
  | .field1 => 0 | .field2 => 1

/-- The event's flag is set in a copy; a flag already set stays set (R181). -/
def PortRecord.raise (e : Event) (p : PortRecord) : PortRecord := { p with events := p.events ||| e.bit }

/-- A port's alert line is high while an event is both in its copy and in its mask (R183). -/
def PortRecord.alertLine (p : PortRecord) : Bool := decide (p.events &&& p.mask ≠ 0)

/-- The record of a port. -/
def State.port (s : State) (p : Port) : PortRecord := s.ports[p.index]

/-- The record of a port is replaced. -/
def State.setPort (s : State) (p : Port) (r : PortRecord) : State :=
  { s with ports := s.ports.set p.index r }

/-- The alert line of a port (R183). -/
def State.alertLine (s : State) (p : Port) : Bool := (s.port p).alertLine

/-- An event is raised in all three copies (R181). -/
def State.raise (e : Event) (s : State) : State :=
  { s with ports := Vector.ofFn fun i : Fin 3 => (s.ports[i]).raise e }

/-- CLAIM_ENDED is raised in the holder's copy only (R181). -/
def State.raiseFor (p : FieldPort) (e : Event) (s : State) : State :=
  s.setPort p.port ((s.port p.port).raise e)

/-! Lane fault flags (R90) -/

/-- The fault kind's place in the order of R90, PREAMBLE_FIXED 0 to DOUBLE_REPLY 12 (R184). -/
def FaultKind.index : FaultKind → Nat
  | .preambleFixed => 0 | .preambleLost => 1 | .headerFixed => 2 | .headerBad => 3
  | .checkBad => 4 | .short => 5 | .overrun => 6 | .stray => 7
  | .unknownKind => 8 | .providerOffSeen => 9 | .unboundPresence => 10 | .unheard => 11
  | .doubleReply => 12

/-- The set that holds the fault kind alone. -/
def FaultKind.bit (k : FaultKind) : BitVec 13 := 1#13 <<< k.index

/-- The fault kind is in a record set (R90). -/
def FaultKind.inSet (k : FaultKind) (record : BitVec 13) : Bool := decide (record &&& k.bit ≠ 0)

/-- The lane of a branch. -/
def State.lane (s : State) (b : Branch) : Lane := s.lanes[b]

/-- The lane of a branch is replaced. -/
def State.setLane (s : State) (b : Branch) (l : Lane) : State := { s with lanes := s.lanes.set b l }

/-- A recorded fault sets the flag of its kind and adds one to the fault count (R90). -/
def Lane.recordFault (k : FaultKind) (l : Lane) : Lane :=
  { l with flags := l.flags ||| k.bit, count := satInc l.count }

/-- A reported fault is recorded if its kind is in the record set in force, and then raises LANE_FAULT (R90). -/
def State.reportFault (b : Branch) (k : FaultKind) (s : State) : State :=
  if k.inSet s.settings.record then (s.setLane b ((s.lane b).recordFault k)).raise .laneFault else s

/-- A lane closes and LANE_FAULT is raised, whatever the record set (R91). -/
def State.closeLane (b : Branch) (s : State) : State :=
  (s.setLane b { s.lane b with closed := true }).raise .laneFault

/-- A call goes out on a lane, after those made before it (R75). -/
def State.sendCall (b : Branch) (c : Call) (s : State) : State :=
  s.setLane b { s.lane b with calls := (s.lane b).calls ++ [c] }

/-! Provider tag sets (R88, R180) and lapse marks (R134) -/

/-- The set that holds the tag alone: tag t is bit t (R184). -/
def tagBit (t : BitVec 3) : BitVec 8 := 1#8 <<< t.toNat

/-- The tag is in the set. -/
def tagIn (t : BitVec 3) (set : BitVec 8) : Bool := decide (set &&& tagBit t ≠ 0)

/-- A provider tag 1..7 that is not in the provider enable set (R55, R88, R97). -/
def Settings.tagOff (st : Settings) (t : BitVec 3) : Bool := t ≠ 0 && !tagIn t st.providers

/-- The lapse mark of a drop alone: drop d is bit d. -/
def markBit (d : Drop) : BitVec 64 := 1#64 <<< d.val

/-- The port has a lapse mark on the drop (R134). -/
def State.lapsed (s : State) (f : FieldPort) (d : Drop) : Bool :=
  decide ((s.lapses[f.index]) &&& markBit d ≠ 0)

/-- The port's lapse mark on the drop is set (R134). -/
def State.setLapse (f : FieldPort) (d : Drop) (s : State) : State :=
  { s with lapses := s.lapses.set f.index ((s.lapses[f.index]) ||| markBit d) }

/-- The port's lapse mark on the drop is cleared (R134). -/
def State.clearLapse (f : FieldPort) (d : Drop) (s : State) : State :=
  { s with lapses := s.lapses.set f.index ((s.lapses[f.index]) &&& ~~~ markBit d) }

/-! The 16-bit cyclic check: polynomial 0x1021, start value 0xFFFF (R84, R147, 12.2). The manual gives no bit order and
no final inversion: most significant bit first and none (PRESUMED, the common form; log entry 26). -/

/-- One bit of the cyclic check. -/
def crcShift (c : BitVec 16) : BitVec 16 := if c.msb then (c <<< 1) ^^^ 0x1021 else c <<< 1

/-- One byte of the cyclic check. -/
def crcByte (c : BitVec 16) (b : Byte) : BitVec 16 :=
  let c0 := c ^^^ (b.zeroExtend 16 <<< 8)
  crcShift (crcShift (crcShift (crcShift (crcShift (crcShift (crcShift (crcShift c0)))))))

/-- The cyclic check over a run of bytes. -/
def crc16 (bs : List Byte) : BitVec 16 := bs.foldl crcByte 0xFFFF

end Sys2Proof.Machine
end

