-- ==== Sys2Proof/Machine/Operands.lean ====
section
/-! DEFINITION. The parameter bytes of the requests (12.2, R185), the coding of the settings (R180, 12.2) and the burst
kinds (12.4). Every parser answers none where R185 answers BAD_PARAMETER. -/

namespace Sys2Proof.Machine

/-- A two-byte value, most significant byte first (R184). -/
def word16 (hi lo : Byte) : Nat := hi.toNat * 256 + lo.toNat

/-- A value of several bytes, most significant byte first (R184). -/
def bytesValue (bs : List Byte) : Nat := bs.foldl (fun n b => n * 256 + b.toNat) 0

/-! Numbers -/

/-- A drop 0..63. -/
def dropOf (b : Byte) : Option Drop := if h : b.toNat < 64 then some ⟨b.toNat, h⟩ else none

/-- A branch 0..3. -/
def branchOf (b : Byte) : Option Branch := if h : b.toNat < 4 then some ⟨b.toNat, h⟩ else none

/-- A generator 0..7. -/
def genOf (b : Byte) : Option Gen := if h : b.toNat < 8 then some ⟨b.toNat, h⟩ else none

/-! Parameters -/

/-- A request with no parameters (R185: the length is judged for it as for any other). -/
def parseNone : List Byte → Option Unit
  | [] => some ()
  | _ => none

/-- One drop. -/
def parseDrop : List Byte → Option Drop
  | [b] => dropOf b
  | _ => none

/-- One branch. -/
def parseBranch : List Byte → Option Branch
  | [b] => branchOf b
  | _ => none

/-- One generator. -/
def parseGen : List Byte → Option Gen
  | [b] => genOf b
  | _ => none

/-- The parameters of PLAN: drop, plot 1..4095, provider 1..7 (R18). -/
structure PlanParams where
  drop : Drop
  plot : Nat
  provider : Nat
deriving DecidableEq, Repr

/-- PLAN: drop, plot in two bytes, provider. -/
def parsePlan : List Byte → Option PlanParams
  | [b, p1, p0, v] =>
    match dropOf b with
    | some d =>
      if 1 ≤ word16 p1 p0 ∧ word16 p1 p0 ≤ 4095 ∧ 1 ≤ v.toNat ∧ v.toNat ≤ 7 then
        some ⟨d, word16 p1 p0, v.toNat⟩
      else none
    | none => none
  | _ => none

/-- The parameters of SET_OFFSET: drop, offset code 0..127, offset source (R18). -/
structure OffsetParams where
  drop : Drop
  code : Nat
  source : OffsetSource
deriving DecidableEq, Repr

/-- An offset source: WORKING 0, STORE 1. -/
def sourceOf (b : Byte) : Option OffsetSource :=
  if b = 0 then some .working else if b = 1 then some .store else none

/-- SET_OFFSET: drop, offset code, offset source. -/
def parseOffset : List Byte → Option OffsetParams
  | [b, c, v] =>
    match dropOf b, sourceOf v with
    | some d, some src => if c.toNat ≤ 127 then some ⟨d, c.toNat, src⟩ else none
    | _, _ => none
  | _ => none

/-- The parameters of TRACE: drop, pattern, length 8, 9, 10 or 12 (R111). -/
structure TraceParams where
  drop : Drop
  pattern : Steps
  length : Nat
deriving DecidableEq, Repr

/-- TRACE: drop, pattern in two bytes whose bits 15..12 are 0, length. -/
def parseTrace : List Byte → Option TraceParams
  | [b, p1, p0, v] =>
    match dropOf b with
    | some d =>
      if word16 p1 p0 < 4096 ∧ v.toNat ∈ [8, 9, 10, 12] then
        some ⟨d, BitVec.ofNat 12 (word16 p1 p0), v.toNat⟩
      else none
    | none => none
  | _ => none

/-- A store record: a slot or the header. -/
inductive StoreName where
  | slot (d : Drop)
  | header
deriving DecidableEq, Repr

/-- READ_STORE: slot 0..63, or 0xFF for the header. -/
def parseStoreName : List Byte → Option StoreName
  | [b] =>
    match dropOf b with
    | some d => some (.slot d)
    | none => if b = 0xFF then some .header else none
  | _ => none

/-- SAVE_SETTINGS: no bytes, or an estate identity of four bytes (12.2). -/
def parseEstate : List Byte → Option (Option (BitVec 32))
  | [] => some none
  | [a, b, c, d] => some (some (BitVec.ofNat 32 (bytesValue [a, b, c, d])))
  | _ => none

/-- SET_MODE: SURVEY 0 or LIVE 1; HOLD and every other code are refused (R146). -/
def parseMode : List Byte → Option RunMode
  | [b] => if b = 0 then some .survey else if b = 1 then some .live else none
  | _ => none

/-- SET_ALERT_MASK: a set of the sixteen events; every bit names an event (R183, R184). -/
def parseEvents : List Byte → Option (BitVec 16)
  | [e1, e0] => some (e1 ++ e0)
  | _ => none

/-- FORGET_ARRIVAL: a nonzero serial of six bytes (R104, R185). -/
def parseSerial : List Byte → Option Serial
  | [a, b, c, d, e, f] =>
    let v : Serial := BitVec.ofNat 48 (bytesValue [a, b, c, d, e, f])
    if v = 0 then none else some v
  | _ => none

/-! Settings -/

/-- The names of the settings (R180, in the order of its table). -/
inductive Setting where
  | openPeriod | stepWidth | acceptLow | acceptHigh | span | divisor | silenceLimit | lease | ageLimit
  | providers | record | recovery | tolerance | alarm | monitorMode | startMode
deriving DecidableEq, Repr

/-- The settings in the order of their codes 0x01 to 0x10 (12.2). -/
def settingOrder : List Setting :=
  [.openPeriod, .stepWidth, .acceptLow, .acceptHigh, .span, .divisor, .silenceLimit, .lease, .ageLimit,
   .providers, .record, .recovery, .tolerance, .alarm, .monitorMode, .startMode]

/-- The setting a code names. -/
def settingOf (b : Byte) : Option Setting :=
  if b = 0 then none else settingOrder[b.toNat - 1]?

/-- The code of a two-valued setting: the first-named value is 0 (R184). -/
def twoValued {α : Type} (v : Nat) (first second : α) : Option α :=
  if v = 0 then some first else if v = 1 then some second else none

/-- The alarm level a code names: A1 0, A2 1, A3 2 (12.2). -/
def alarmOf (v : Nat) : Option AlarmLevel :=
  if v = 0 then some .a1 else if v = 1 then some .a2 else if v = 2 then some .a3 else none

/-- The value is kept if it lies in the range. -/
def inRange (lo hi v : Nat) : Option Nat := if lo ≤ v ∧ v ≤ hi then some v else none

/-- The value is kept if it is one of those named. -/
def oneOf (vs : List Nat) (v : Nat) : Option Nat := if v ∈ vs then some v else none

/-- One setting replaced by a coded value, or none where the value lies outside the setting's range (R180, R185). A set
that names an unused bit lies outside: bit 0 of a provider set, bits 15..13 of a record set. -/
def Settings.put (st : Settings) (k : Setting) (v : Nat) : Option Settings :=
  match k with
  | .openPeriod => (inRange 1 255 v).map fun v => { st with openPeriod := v }
  | .stepWidth => (oneOf [40, 60, 80, 120] v).map fun v => { st with stepWidth := v }
  | .acceptLow => (inRange 0 (min 100 st.acceptHigh) v).map fun v => { st with acceptLow := v }
  | .acceptHigh => (inRange st.acceptLow 100 v).map fun v => { st with acceptHigh := v }
  | .span => (inRange 1 4095 v).map fun v => { st with span := v }
  | .divisor => (oneOf [1, 2, 4, 8] v).map fun v => { st with divisor := v }
  | .silenceLimit => (inRange 1 255 v).map fun v => { st with silenceLimit := v }
  | .lease => (inRange 1 60 v).map fun v => { st with lease := v }
  | .ageLimit => (inRange 1 60 v).map fun v => { st with ageLimit := v }
  | .providers =>
    if v < 256 ∧ v % 2 = 0 then some { st with providers := BitVec.ofNat 8 v } else none
  | .record => if v < 8192 then some { st with record := BitVec.ofNat 13 v } else none
  | .recovery => (twoValued v .auto .close).map fun v => { st with recovery := v }
  | .tolerance => (twoValued v .strict .lenient).map fun v => { st with tolerance := v }
  | .alarm => (alarmOf v).map fun v => { st with alarm := v }
  | .monitorMode => (twoValued v .alarm .reset).map fun v => { st with monitorMode := v }
  | .startMode => (twoValued v .survey .live).map fun v => { st with startMode := v }

/-- The coded value of a setting (12.2). -/
def Settings.value (st : Settings) : Setting → Nat
  | .openPeriod => st.openPeriod
  | .stepWidth => st.stepWidth
  | .acceptLow => st.acceptLow
  | .acceptHigh => st.acceptHigh
  | .span => st.span
  | .divisor => st.divisor
  | .silenceLimit => st.silenceLimit
  | .lease => st.lease
  | .ageLimit => st.ageLimit
  | .providers => st.providers.toNat
  | .record => st.record.toNat
  | .recovery => match st.recovery with | .auto => 0 | .close => 1
  | .tolerance => match st.tolerance with | .strict => 0 | .lenient => 1
  | .alarm => match st.alarm with | .a1 => 0 | .a2 => 1 | .a3 => 2
  | .monitorMode => match st.monitorMode with | .alarm => 0 | .reset => 1
  | .startMode => match st.startMode with | .survey => 0 | .live => 1

/-- The parameters of SET_SETTING: the setting and its coded value. -/
structure SettingParams where
  setting : Setting
  value : Nat
deriving DecidableEq, Repr

/-- SET_SETTING: a setting code and a value of two bytes. -/
def parseSetting : List Byte → Option SettingParams
  | [c, v1, v0] =>
    match settingOf c with
    | some k => some ⟨k, word16 v1 v0⟩
    | none => none
  | _ => none

/-! Burst kinds (12.4) -/

/-- The four known kinds (R77). -/
inductive BurstKind where
  | hello | matchReply | rangeReply | presence
deriving DecidableEq, Repr

/-- The kind number of a known kind. -/
def BurstKind.code : BurstKind → BitVec 4
  | .hello => 1 | .matchReply => 2 | .rangeReply => 3 | .presence => 4

/-- The known kind a kind number names. -/
def burstKindOf (k : BitVec 4) : Option BurstKind :=
  if k = 1 then some .hello else if k = 2 then some .matchReply
  else if k = 3 then some .rangeReply else if k = 4 then some .presence else none

/-- The payload length of a known kind (R77). -/
def BurstKind.payloadLength : BurstKind → Nat
  | .rangeReply => 0
  | _ => 3

/-- The raw level of a payload; a level symbol above 127 is taken as 127 (R77). -/
def payloadLevel (payload : List Byte) : Nat := min 127 (payload.getD 0 0).toNat

/-- The observation of a payload; its unused bits 15..12 are ignored (R77, R185). -/
def payloadObservation (payload : List Byte) : Steps :=
  BitVec.ofNat 12 (word16 (payload.getD 1 0) (payload.getD 2 0))

end Sys2Proof.Machine
end

