-- ==== Sys2Proof/Machine/Ops.lean ====
section
/-! DEFINITION. The named operations over the block's records: accessors, the fields on entry into a state (R14), levels
(R6 to R8), the store views of an entry (R15, R16), the emitter and lamp lines (R25, R120), claims and modes. -/

namespace Sys2Proof.Machine

/-! Accessors: every record has one home, read and replaced here. -/

/-- The roster entry of a drop (R1). -/
def State.entry (s : State) (d : Drop) : Entry := s.roster[d]

/-- The roster entry of a drop is replaced. -/
def State.setEntry (s : State) (d : Drop) (e : Entry) : State := { s with roster := s.roster.set d e }

/-- The claim of a drop (R133). -/
def State.claim (s : State) (d : Drop) : Option Claim := s.claims[d]

/-- The claim of a drop is replaced. -/
def State.setClaim (s : State) (d : Drop) (c : Option Claim) : State := { s with claims := s.claims.set d c }

/-- The Branch Controller of a branch. -/
def State.branch (s : State) (b : Branch) : BranchCtl := s.branches[b]

/-- The Branch Controller of a branch is replaced. -/
def State.setBranch (s : State) (b : Branch) (c : BranchCtl) : State := { s with branches := s.branches.set b c }

/-- The arrivals list of a branch (R96). -/
def State.arrivalsOf (s : State) (b : Branch) : ArrivalsList := s.arrivals[b]

/-- The arrivals list of a branch is replaced. -/
def State.setArrivals (s : State) (b : Branch) (l : ArrivalsList) : State :=
  { s with arrivals := s.arrivals.set b l }

/-- A trace generator (R107). -/
def State.gen (s : State) (g : Gen) : Generator := s.generators[g]

/-- A trace generator is replaced. -/
def State.setGen (s : State) (g : Gen) (x : Generator) : State := { s with generators := s.generators.set g x }

/-- The store record of a slot (R147). -/
def State.slot (s : State) (d : Drop) : StoreRecord := s.slots[d]

/-- The store record of a slot is replaced. -/
def State.setSlot (s : State) (d : Drop) (r : StoreRecord) : State := { s with slots := s.slots.set d r }

/-- The image of a slot (R147). -/
def State.image (s : State) (d : Drop) : SlotImage := s.images[d]

/-- The image of a slot is replaced. -/
def State.setImage (s : State) (d : Drop) (i : SlotImage) : State := { s with images := s.images.set d i }

/-! Entering a state (R14, Table 1-4) -/

/-- A serial made absent becomes the last serial (R5, R14). -/
def Entry.dropSerial (e : Entry) : Entry :=
  match e.serial with
  | some n => { e with serial := none, lastSerial := some n }
  | none => e

/-- The entry effects of PLANNED and BLOCKED (Table 1-4). -/
def Entry.unbindTo (e : Entry) (st : EntryState) : Entry :=
  { e.dropSerial with
    state := st, roundTrip := none, delay := none, presence := none,
    levelDrift := false, rejoinPending := false }

/-- The field effects of entry into a state; a transition to the same state applies none (R14, Table 1-4). Rejoin pending
also clears when the entry leaves BOUND (R12). -/
def Entry.enter (e : Entry) (st : EntryState) : Entry :=
  if e.state = st then e
  else match st with
    | .vacant => .empty
    | .planned => e.unbindTo .planned
    | .blocked => e.unbindTo .blocked
    | .bound => { e with state := .bound, presence := none, levelDrift := false }
    | .ranging => { e with state := .ranging, rejoinPending := false }
    | .binding => { e with state := .binding, rejoinPending := false }
    | .active => { e with state := .active, rejoinPending := false }
    | .silent => { e with state := .silent, rejoinPending := false }

/-- The last result is set (R13). -/
def Entry.result (e : Entry) (r : LastResult) : Entry := { e with lastResult := r }

/-- The drop whose entry holds the serial, if any (R4: at most one does). -/
def State.holderOf (s : State) (n : Serial) : Option Drop :=
  allDrops.find? fun d => (s.entry d).serial = some n

/-! Jobs of a drop (R11, R26) -/

/-- The activation queue of a branch. -/
def State.queue (s : State) (b : Branch) : List Job := (s.branch b).queue

/-- The job of a drop, held in the queue of its own branch (R26). -/
def State.jobOf (s : State) (d : Drop) : Option Job := (s.queue d.branch).find? fun j => j.drop = d

/-- The job field of an entry: the stage of the drop's job, none when it has no job (R11). -/
def State.jobField (s : State) (d : Drop) : Option Stage := (s.jobOf d).map Job.stage

/-! Levels (R6, R7) -/

/-- The offset code the entry's offset source selects (R6). -/
def State.offsetCode (s : State) (d : Drop) : Nat :=
  match (s.entry d).offsetSource with
  | .working => (s.entry d).workingOffset
  | .store =>
    match s.image d with
    | .filled body => body.offset
    | _ => 64

/-- The effective level: the raw level plus (offset code − 64), clamped to 0..100 (R7). -/
def effectiveLevel (raw code : Nat) : Nat := min 100 (raw + code - 64)

/-- The effective level of a raw level for an entry (R7). -/
def State.levelOf (s : State) (d : Drop) (raw : Nat) : Nat := effectiveLevel raw (s.offsetCode d)

/-! The store views of an entry (R15, R16) -/

/-- The commit count of an entry: the marks written in the drop's slot (R15). -/
def State.commitCount (s : State) (d : Drop) : Nat := (s.slot d).marks

/-- The entry agrees with a filled body in all five points (R16, step 3). -/
def State.agrees (s : State) (d : Drop) (body : FilledBody) : Bool :=
  (s.entry d).plot = body.plot && (s.entry d).provider = body.provider &&
  (s.entry d).serial = some body.serial && s.offsetCode d = body.offset &&
  (s.entry d).delay = some body.delay

/-- The store status of an entry (R16). SUSPECT stands exactly while the image is TORN: the scan sets both, and the
completion of a write lifts both (R147, R151). -/
def State.storeStatus (s : State) (d : Drop) : StoreStatus :=
  match s.image d with
  | .torn => .suspect
  | .never => .none
  | .empty _ => .none
  | .filled body => if s.agrees d body then .matches else .differs

/-! Modes (R29, R144) and claims (R133, R143) -/

/-- The mode that a run mode is. -/
def RunMode.mode : RunMode → Mode
  | .survey => .survey
  | .live => .live

/-- The part is open (R167). -/
def State.isRunning (s : State) : Bool := s.startup = .running

/-- Job intake is open in LIVE, and in HOLD with resume mode LIVE (R29). -/
def State.intakeOpen (s : State) : Bool := s.mode = .live || (s.mode = .hold && s.resume = .live)

/-- Any queue of any branch holds a job (R49, R146). -/
def State.anyJob (s : State) : Bool := allBranches.any fun b => !(s.queue b).isEmpty

/-- The claim count of a field port: the drops on which it is the holder (R133). -/
def State.claimCount (s : State) (f : FieldPort) : Nat :=
  (allDrops.filter fun d => (s.claim d).map Claim.holder = some f).length

/-- The field port holds the drop. -/
def State.holds (s : State) (f : FieldPort) (d : Drop) : Bool := (s.claim d).map Claim.holder = some f

/-! Generators and lines (R107, R108, R120, R25) -/

/-- The mask of the first L steps of a sequence. -/
def firstSteps (l : Nat) : Steps := BitVec.ofNat 12 ((2 ^ l - 1) * 2 ^ (12 - l))

/-- The observed sequence of a pattern played at a length: the steps beyond the length are dark (R108). -/
def observedOf (pattern : Steps) (l : Nat) : Steps := pattern &&& firstSteps l

/-- The observed sequence of a generator (R108). -/
def Generator.observed (g : Generator) : Steps := observedOf g.pattern g.length

/-- The binding code of a branch (R52). -/
def bindingCode (b : Branch) : Steps :=
  match b with
  | 0 => 0b111011001010
  | 1 => 0b111001101100
  | 2 => 0b111010011001
  | 3 => 0b111000110101

/-- The generator is attached to the drop. -/
def Generator.on (g : Generator) (d : Drop) : Bool := g.attached.map Prod.fst = some d

/-- The generator is attached and owned so. -/
def Generator.ownedBy (g : Generator) (o : Owner) : Bool := g.attached.map Prod.snd = some o

/-- The generator attached to a drop, if any (R107: at most one is). -/
def State.genOn (s : State) (d : Drop) : Option Gen := allGens.find? fun g => (s.gen g).on d

/-- The lowest-numbered free generator (R112, R116). -/
def State.freeGen (s : State) : Option Gen := allGens.find? fun g => (s.gen g).attached.isNone

/-- A step of a sequence, 1..12, is lit (R184). -/
def Steps.lit (seq : Steps) (step : Nat) : Bool := seq.getLsbD (12 - step)

/-- The emitter line of a drop at the present step (R120); dark while the frame timer is stopped (R109). -/
def State.emitter (s : State) (d : Drop) : Bool :=
  match s.frame, s.genOn d with
  | some f, some g => Steps.lit (s.gen g).observed f.step
  | _, _ => false

/-- The lamp pattern of an entry's state at a step (R25). -/
def EntryState.lampAt (st : EntryState) (step : Nat) : Bool :=
  match st with
  | .active => true
  | .silent => step ≤ 6
  | _ => false

/-- The lamp line of a drop at the present step (R25, R120); dark while the frame timer is stopped (R109). -/
def State.lamp (s : State) (d : Drop) : Bool :=
  match s.frame, s.genOn d with
  | some f, some g => Steps.lit (s.gen g).observed f.step
  | some f, none => (s.entry d).state.lampAt f.step
  | none, _ => false

/-! Arrivals (R96) -/

/-- The serial is in the arrivals list of the branch. -/
def State.listedOn (s : State) (b : Branch) (n : Serial) : Bool := (s.arrivalsOf b).items.any fun a => a.serial = n

/-- The serial is in some arrivals list. -/
def State.listed (s : State) (n : Serial) : Bool := allBranches.any fun b => s.listedOn b n

/-- The arrival of a serial leaves whichever list holds it, closing the gap; the missed counts do not change (R96). -/
def State.unlist (n : Serial) (s : State) : State :=
  { s with arrivals := Vector.ofFn fun b : Fin 4 =>
      { s.arrivals[b] with items := (s.arrivals[b]).items.filter fun a => a.serial ≠ n } }

/-- A burst that the receiver does not take, or takes no longer (R78, R91). -/
def Reception.ignored (r : Reception) : Reception := { r with taken := false }

/-! The three outcomes of a command: here every command answers a next state. -/

/-- An event that the part meets only while it is open (R167, R171); before that it does not occur. -/
def State.whileRunning (s : State) (act : State → State) : Result := .next (if s.isRunning then act s else s)

end Sys2Proof.Machine
end

