-- ==== Sys2Proof/Machine/TraceOps.lean ====
section
/-! DEFINITION. Attachment and detachment of trace generators, the binding jobs that wait for one, and the echo records
(chapter 6). -/

namespace Sys2Proof.Machine

/-- A generator is attached to a drop; its echo record is cleared (R107, R112, R116). -/
def State.attach (s : State) (g : Gen) (d : Drop) (o : Owner) (pattern : Steps) (l : Nat) : State :=
  s.setGen g ⟨some (d, o), pattern, l, .cleared⟩

/-- The attached drop and the owner become absent; pattern, length and echo record are kept (R107, R115). -/
def Generator.detached (g : Generator) : Generator := { g with attached := none }

/-- The attached generators for which the test holds, lowest-numbered first. -/
def State.gensWhere (s : State) (p : Generator → Bool) : List Gen :=
  allGens.filter fun g => (s.gen g).attached.isSome && p (s.gen g)

/-- Every attached generator for which the test holds detaches (R115). -/
def State.detachWhere (s : State) (p : Generator → Bool) : State :=
  { s with generators := Vector.ofFn fun g : Fin 8 =>
      if (s.generators[g]).attached.isSome && p s.generators[g] then (s.generators[g]).detached
      else s.generators[g] }

/-- How a branch's binding job waits in WAIT_TRACE (R116). -/
inductive BindingWait where
  | eligible | passedOver
deriving DecidableEq, Repr

/-- The waiting binding job of a branch: its head job is in WAIT_TRACE without a generator of its own. It is passed over
while a generator attached by TRACE is on its drop, and eligible otherwise (R116). -/
def State.bindingWait (s : State) (b : Branch) : Option BindingWait :=
  match s.queue b with
  | j :: _ =>
    if j.stage = .waitTrace ∧ (s.branch b).frameMarks = none then
      some (if (s.genOn j.drop).isSome then .passedOver else .eligible)
    else none
  | [] => none

/-- The branches in turn, starting from the one after the last-served branch (R117). -/
def turnAfter (b : Branch) : List Branch := [b + 1, b + 2, b + 3, b]

/-- A generator is given to the binding job of a branch: attached to its drop with the branch's binding code at length 12;
the branch becomes the last served, and the job begins counting frame marks (R40, R116). -/
def State.giveGenerator (b : Branch) (g : Gen) (s : State) : State :=
  match s.queue b with
  | j :: _ =>
    { (s.attach g j.drop (.binding b) (bindingCode b) 12).setBranch b { s.branch b with frameMarks := some 0 } with
      lastServed := b }
  | [] => s

/-- A job that enters WAIT_TRACE asks for a generator: the lowest-numbered free one is attached at once unless a
generator is on its drop; otherwise the job waits (R116). -/
def State.requestGenerator (b : Branch) (s : State) : State :=
  match s.bindingWait b, s.freeGen with
  | some .eligible, some g => s.giveGenerator b g
  | _, _ => s

/-- A freed generator is offered to the eligible waiting binding jobs, branch by branch in turn (R117). -/
def State.offer (s : State) (g : Gen) : State :=
  match (turnAfter s.lastServed).find? fun b => s.bindingWait b = some .eligible with
  | some b => s.giveGenerator b g
  | none => s

/-- Freed generators are offered one after another, lowest-numbered first (R117). -/
def State.offerAll (gs : List Gen) (s : State) : State := gs.foldl State.offer s

/-- The generators for which the test holds detach, and each freed one is offered (R115, R117). -/
def State.detachAndOffer (p : Generator → Bool) (s : State) : State :=
  (s.detachWhere p).offerAll (s.gensWhere p)

/-- An echo updates a generator's echo record (R119). `own` is the attached drop and `bound` the drop whose entry held the
serial when the burst was accepted. -/
def EchoRecord.take (r : EchoRecord) (own : Drop) (n : Serial) (b : Branch) (bound : Option Drop) : EchoRecord where
  count := satInc r.count
  first := match r.first with
    | none => some (n, b)
    | some f => some f
  wrongBranch := r.wrongBranch || b ≠ own.branch
  boundElsewhere := r.boundElsewhere || (bound.isSome && bound ≠ some own)
  multiple := r.multiple || (match r.first with
    | none => false
    | some f => decide (f.1 ≠ n))

/-- A report of an observation: it is an echo of the attached generator whose observed sequence it equals, and is ignored
when it equals none (R118). -/
def State.takeEcho (n : Serial) (b : Branch) (obs : Steps) (bound : Option Drop) (s : State) : State :=
  match allGens.find? fun g => (s.gen g).attached.isSome && (s.gen g).observed = obs with
  | some g =>
    match (s.gen g).attached with
    | some (own, _) => s.setGen g { s.gen g with echo := (s.gen g).echo.take own n b bound }
    | none => s
  | none => s

end Sys2Proof.Machine
end

