-- ==== Sys2Proof/Machine/BranchOps.lean ====
section
/-! DEFINITION. The Branch Controller's operations: job intake, the start of a head job, the grant of the window, and the
end of a job (chapter 2), with what each attempt and try sends (chapter 3). -/

namespace Sys2Proof.Machine

/-- The queue of a branch is replaced. -/
def State.setQueue (s : State) (b : Branch) (q : List Job) : State := s.setBranch b { s.branch b with queue := q }

/-- A job joins at the tail in stage WAITING with attempt count 0 (R26, R27). -/
def State.appendJob (d : Drop) (k : JobKind) (r : Requester) (s : State) : State :=
  s.setQueue d.branch (s.queue d.branch ++ [⟨d, k, .waiting, r, 0⟩])

/-- The head job of a branch is changed. -/
def State.setHead (b : Branch) (f : Job → Job) (s : State) : State :=
  match s.queue b with
  | j :: js => s.setQueue b (f j :: js)
  | [] => s

/-! The window (R35 to R38, R53, R60) -/

/-- The width in ms of the trace frame in progress (R53, R110). -/
def State.frameWidth (s : State) : Nat :=
  match s.frame with
  | some f => f.width
  | none => s.settings.stepWidth

/-- An open call is granted the window: OPEN_CALL is sent, and the due call is cleared (R38). -/
def State.openCall (b : Branch) (s : State) : State :=
  (s.setBranch b { s.branch b with window := .openCall, listenMs := some 300, openDue := false }).sendCall b (.openCall b)

/-- A match attempt: the attempt count rises, the decision is cleared, MATCH_CALL carries the binding code, and the
window is MATCH_LISTEN for one frame of the width in progress (R53). -/
def State.matchAttempt (b : Branch) (s : State) : State :=
  let s1 := s.setHead b fun j => { j with attempts := j.attempts + 1 }
  (s1.setBranch b { s1.branch b with
    window := .matchListen, listenMs := some (12 * s.frameWidth), decided := none }).sendCall b
      (.matchCall (bindingCode b))

/-- A burst in progress on a lane keeps no reading of the range counter: its preamble began before the RANGE_CALL that
now goes out (R61). -/
def State.dropReading (b : Branch) (s : State) : State :=
  s.setLane b { s.lane b with rx := (s.lane b).rx.map fun r => { r with counter := none } }

/-- A range try: the attempt count rises, RANGE_CALL carries the entry's serial, the range counter starts at 0, and the
window is RANGE_LISTEN for 200 ms (R60). -/
def State.rangeTry (b : Branch) (d : Drop) (s : State) : State :=
  let s1 := s.setHead b fun j => { j with attempts := j.attempts + 1 }
  ((s1.setBranch b { s1.branch b with
    window := .rangeListen, listenMs := some 200, rangeCounter := some ⟨0, false⟩ }).dropReading b).sendCall b
      (.rangeCall ((s.entry d).serial.getD 0))

/-- The window is granted whenever it is NONE and a claimant is present: to a due open call first, otherwise to the head
job in MATCH or RANGE (R36, R41). -/
def State.grant (b : Branch) (s : State) : State :=
  if (s.branch b).window = .none then
    if (s.branch b).openDue then s.openCall b
    else match s.queue b with
      | j :: _ =>
        match j.stage with
        | .matching => s.matchAttempt b
        | .range => s.rangeTry b j.drop
        | _ => s
      | [] => s
  else s

/-- The listening period of a branch ends or is cut short: the window is NONE and the fields that served it are absent
(R42, R51). -/
def BranchCtl.endListening (c : BranchCtl) : BranchCtl :=
  { c with window := .none, listenMs := none, decided := none, rangeCounter := none }

/-! Starting a head job (R39) -/

/-- A head job in WAITING starts when the mode is LIVE: an ACTIVATE job enters WAIT_TRACE and asks for a generator; a
REJOIN job enters RANGE with attempt count 0 and its entry becomes RANGING (R39). -/
def State.startHead (b : Branch) (s : State) : State :=
  match s.queue b with
  | j :: js =>
    if s.mode = .live ∧ j.stage = .waiting then
      match j.kind with
      | .activate => (s.setQueue b ({ j with stage := .waitTrace } :: js)).requestGenerator b
      | .rejoin =>
        (s.setQueue b ({ j with stage := .range, attempts := 0 } :: js)).setEntry j.drop
          ((s.entry j.drop).enter .ranging)
    else s
  | [] => s

/-- The head starts if it may, and the window is granted again if it is NONE (R42, step 6). -/
def State.proceed (b : Branch) (s : State) : State := (s.startHead b).grant b

/-- The heads of all branches start in turn from the branch after the last-served one, and then every window is granted
(R48, R117). -/
def State.proceedAll (s : State) : State :=
  let started := (turnAfter s.lastServed).foldl (fun t b => t.startHead b) s
  allBranches.foldl (fun t b => t.grant b) started

/-! Rejoins, refill and fill (R32 to R34) -/

/-- The drops of a branch in ascending order. -/
def dropsOf (b : Branch) : List Drop := allDrops.filter fun d => d.branch = b

/-- The drops of a branch whose rejoin pending flag is set, in ascending order (R50). -/
def State.pendingDrops (s : State) (b : Branch) : List Drop :=
  (dropsOf b).filter fun d => (s.entry d).rejoinPending

/-- A pending drop gets its REJOIN job, and its flag is cleared (R33, R34). -/
def State.queuePending (d : Drop) (s : State) : State :=
  (s.appendJob d .rejoin .roster).setEntry d { s.entry d with rejoinPending := false }

/-- With job intake open, a departure is replaced by the lowest-numbered pending drop of the branch (R33). -/
def State.refill (b : Branch) (s : State) : State :=
  if s.intakeOpen ∧ (s.queue b).length < Config.queueLimit then
    match s.pendingDrops b with
    | d :: _ => s.queuePending d
    | [] => s
  else s

/-- The queue is filled from the pending flags in ascending drop order until it holds 6 jobs or no flag is set (R34). -/
def State.fill (b : Branch) (s : State) : State :=
  ((s.pendingDrops b).take (Config.queueLimit - (s.queue b).length)).foldl (fun t d => t.queuePending d) s

/-- A rejoin request for a BOUND entry with no job (R32). In LIVE a job that joins an empty queue starts at once, and
its entry is RANGING (R39, log entry 29). -/
def State.rejoinRequest (d : Drop) (s : State) : State :=
  if s.intakeOpen ∧ (s.queue d.branch).length < Config.queueLimit then
    (s.appendJob d .rejoin .roster).proceed d.branch
  else if (s.entry d).rejoinPending then s
  else (s.setEntry d { s.entry d with rejoinPending := true }).raise .rejoinWaiting

/-! The end of a job (R42) -/

/-- The head job of the branch holds the window: MATCH_LISTEN in MATCH, or RANGE_LISTEN in RANGE. A MATCH_LISTEN that
has judged a good reply is no longer held (R42, step 2). -/
def BranchCtl.jobHoldsWindow (c : BranchCtl) (stage : Stage) : Bool :=
  match stage, c.window with
  | .matching, .matchListen => c.decided.map Prod.snd ≠ some .succeeded
  | .range, .rangeListen => true
  | _, _ => false

/-- The Branch Controller without the drop's job: a window the job holds is cut short, the admit wait and the frame
count of a running job become absent, and the order of the others is kept (R26, R42). -/
def BranchCtl.removeJob (c : BranchCtl) (j : Job) : BranchCtl :=
  let c1 := if c.jobHoldsWindow j.stage then c.endListening else c
  let c2 := if j.stage = .waiting then c1 else { c1 with frameMarks := none, admitWait := none }
  { c2 with queue := c.queue.filter fun k => k.drop ≠ j.drop }

/-- The generator a job holds: the binding generator of its branch, in WAIT_TRACE and MATCH (R40, R52). -/
def bindingGenOf (j : Job) (g : Generator) : Bool :=
  (j.stage = .waitTrace || j.stage = .matching) && g.ownedBy (.binding j.drop.branch)

/-- The job leaves the queue: its generator is released, its window cut short, the entry takes the values of the ending
rule, and the freed generator is offered (R42, steps 1 to 4). -/
def State.dropJob (j : Job) (e : Entry) (s : State) : State :=
  let b := j.drop.branch
  let s1 := (s.detachWhere (bindingGenOf j)).setBranch b ((s.branch b).removeJob j)
  (s1.setEntry j.drop e).offerAll (s.gensWhere (bindingGenOf j))

/-- A job ends: it leaves the queue, the event is raised, the queue is refilled, and the new head proceeds (R42, R43).
-/
def State.endJob (j : Job) (e : Entry) (s : State) (event : Option Event) : State :=
  let s1 := s.dropJob j e
  let s2 := match event with
    | some ev => s1.raise ev
    | none => s1
  (s2.refill j.drop.branch).proceed j.drop.branch

/-- A job abandoned by a hello from its own serial: the entry becomes BOUND with result HELD, JOB_FAILED is raised, and
the drop's REJOIN job takes the place just freed instead of a refill (R33, R68). -/
def State.abandonJob (j : Job) (s : State) : State :=
  let s1 := (s.dropJob j (((s.entry j.drop).enter .bound).result .held)).raise .jobFailed
  (s1.appendJob j.drop .rejoin .roster).proceed j.drop.branch

end Sys2Proof.Machine
end

