-- ==== Sys2Proof/Machine/BranchTimers.lean ====
section
/-! DEFINITION. The expiries of a branch's timers (R37, R38, R53, R58, R60, R63, R66) and the trace frame (R40, R109,
R110). An expiry whose timer is not running does not occur and changes nothing. -/

namespace Sys2Proof.Machine

/-- The head job of a branch. -/
def State.head (s : State) (b : Branch) : Option Job := (s.queue b).head?

/-- The open-call timer expires: an open call is due, the timer stops, and the window is granted if it is NONE (R36,
R37). -/
def State.openCallDue (b : Branch) (s : State) : State :=
  match (s.branch b).openTimer with
  | some _ => (s.setBranch b { s.branch b with openDue := true, openTimer := none }).grant b
  | none => s

/-- OPEN_CALL_DUE (R37). -/
def execOpenCallDue (b : Branch) (s : State) : Result := s.whileRunning fun s => s.openCallDue b

/-- The 300 ms of an open call end: the window is NONE, the timer starts again, and the window is granted again (R38).
-/
def State.openCallEnd (b : Branch) (s : State) : State :=
  if (s.branch b).window = .openCall then
    (s.setBranch b { (s.branch b).endListening with openTimer := some s.settings.openPeriod }).grant b
  else s

/-- OPEN_CALL_END (R38). -/
def execOpenCallEnd (b : Branch) (s : State) : Result := s.whileRunning fun s => s.openCallEnd b

/-- A third match attempt without a good reply ends the job NO_ANSWER with the entry PLANNED (R58). -/
def State.matchGivenUp (j : Job) (s : State) : State :=
  s.endJob j (((s.entry j.drop).enter .planned).result .noAnswer) (some .jobFailed)

/-- A MATCH_LISTEN ends: after a success the window is granted again; otherwise the attempt has failed, and the job
tries again or, after the third attempt, ends (R53, R58, R59). -/
def State.matchListenEnd (b : Branch) (s : State) : State :=
  if (s.branch b).window = .matchListen then
    let succeeded := (s.branch b).decided.map Prod.snd = some .succeeded
    let s1 := s.setBranch b (s.branch b).endListening
    match s.head b with
    | some j =>
      if j.stage = .matching ∧ ¬ succeeded ∧ 3 ≤ j.attempts then s1.matchGivenUp j else s1.grant b
    | none => s1.grant b
  else s

/-- MATCH_LISTEN_END (R53, R58). -/
def execMatchListenEnd (b : Branch) (s : State) : Result := s.whileRunning fun s => s.matchListenEnd b

/-- A second range try without a matching reply ends the job NO_ANSWER with the entry BOUND (R63). -/
def State.rangeGivenUp (j : Job) (s : State) : State :=
  s.endJob j (((s.entry j.drop).enter .bound).result .noAnswer) (some .jobFailed)

/-- A RANGE_LISTEN ends at 200 ms without a matching reply: one retry, and then the end of the job (R63). -/
def State.rangeListenTimeout (b : Branch) (s : State) : State :=
  if (s.branch b).window = .rangeListen then
    let s1 := s.setBranch b (s.branch b).endListening
    match s.head b with
    | some j => if j.stage = .range ∧ 2 ≤ j.attempts then s1.rangeGivenUp j else s1.grant b
    | none => s1.grant b
  else s

/-- RANGE_LISTEN_TIMEOUT (R63). -/
def execRangeListenTimeout (b : Branch) (s : State) : Result := s.whileRunning fun s => s.rangeListenTimeout b

/-- A range counter that would pass 4095 stays there with its overflow mark set (R60). That the command brings a running
counter there from any count, also from one below 4095, is the model's choice (log entry 34). -/
def State.rangeOverflow (b : Branch) (s : State) : State :=
  s.setBranch b { s.branch b with rangeCounter := (s.branch b).rangeCounter.map fun _ => ⟨4095, true⟩ }

/-- RANGE_COUNTER_OVERFLOW (R60). -/
def execRangeCounterOverflow (b : Branch) (s : State) : Result := s.whileRunning fun s => s.rangeOverflow b

/-- The admit wait expires: a WITHDRAW call goes out, and the job ends NO_PRESENCE with the entry BOUND (R66). -/
def State.admitExpired (b : Branch) (j : Job) (s : State) : State :=
  let e := s.entry j.drop
  (s.sendCall b (.withdraw (e.serial.getD 0))).endJob j ((e.enter .bound).result .noPresence) (some .jobFailed)

/-- The expiry of the admit wait of the head job in ADMIT (R66). -/
def State.admitWaitExpiry (b : Branch) (s : State) : State :=
  match s.head b with
  | some j => if j.stage = .admitting then s.admitExpired b j else s
  | none => s

/-- ADMIT_WAIT_EXPIRY (R66). -/
def execAdmitWaitExpiry (b : Branch) (s : State) : Result := s.whileRunning fun s => s.admitWaitExpiry b

/-! The trace frame -/

/-- The job has seen its frames: it enters MATCH with attempt count 0, its entry becomes BINDING, and it is ready for
the window (R40, R41). -/
def State.enterMatch (b : Branch) (s : State) : State :=
  match s.head b with
  | some j =>
    if j.stage = .waitTrace then
      let s1 := (s.setHead b fun k => { k with stage := .matching, attempts := 0 }).setEntry j.drop
        ((s.entry j.drop).enter .binding)
      (s1.setBranch b { s1.branch b with frameMarks := none }).grant b
    else s
  | none => s

/-- The count of frame marks has reached three: two complete frames of the code have ended (R40). -/
def State.countDone (s : State) (b : Branch) : Bool :=
  match (s.branch b).frameMarks with
  | some n => 3 ≤ n
  | none => false

/-- A branch takes a frame mark: its counting job counts it, starting again at 1 where the width changed, and enters
MATCH at the third (R40, R110). -/
def State.branchMark (changed : Bool) (s : State) (b : Branch) : State :=
  match (s.branch b).frameMarks with
  | some n =>
    let s1 := s.setBranch b { s.branch b with frameMarks := some (if changed then 1 else n + 1) }
    if s1.countDone b then s1.enterMatch b else s1
  | none => s

/-- A frame mark: the new frame takes the step width in force and begins at step 1, and each branch counts it (R109,
R110). -/
def State.frameMark (s : State) : State :=
  match s.frame with
  | some f =>
    let w := s.settings.stepWidth
    allBranches.foldl (State.branchMark (w ≠ f.width)) { s with frame := some ⟨w, 1⟩ }
  | none => s

/-- FRAME_MARK (R109, R110). -/
def execFrameMark (s : State) : Result := s.whileRunning State.frameMark

/-- One step width has passed: the frame moves to its next step; the twelfth ends with the frame mark (R109). -/
def State.traceStep (s : State) : State :=
  match s.frame with
  | some f => if f.step < 12 then { s with frame := some { f with step := f.step + 1 } } else s
  | none => s

/-- TRACE_STEP (R109). -/
def execTraceStep (s : State) : Result := s.whileRunning State.traceStep

/-- WAIT_TRACE_COUNT_DONE (R40): a job whose count has reached three enters MATCH. -/
def execWaitTraceCountDone (b : Branch) (s : State) : Result :=
  s.whileRunning fun s => if s.countDone b then s.enterMatch b else s

end Sys2Proof.Machine
end

