-- ==== Sys2Proof/Machine/Receiver.lean ====
section
/-! DEFINITION. Burst reception: the checks of R79 in their order, the Unknown-Kind Table, and what the Arrivals List, the
Branch Controller and the Presence Supervisor do with an accepted burst (chapters 3, 4, 5 and 7). -/

namespace Sys2Proof.Machine

/-! Checks 1 to 4 (R80 to R84): they read nothing but the burst and the preamble tolerance. -/

/-- The verdict on a complete preamble (R80). -/
inductive PreambleVerdict where
  | good | fixed | lost
deriving DecidableEq, Repr

/-- No error is good; one is repaired, under STRICT only in symbols 1..6; two or more lose the preamble (R80). -/
def judgePreamble (tol : Tolerance) (errors : List Bool) : PreambleVerdict :=
  match errors.count true with
  | 0 => .good
  | 1 => if tol = .lenient ∨ (errors.take 6).count true = 1 then .fixed else .lost
  | _ => .lost

/-- A header is bad: a double error, serial 0, a payload length outside 0..16, or a known kind with another length than
its own (R82). -/
def headerBad (h : Header) : Bool :=
  h.verdict = .doubleError || h.serial = 0 || 16 < h.length.toNat ||
  (match burstKindOf h.kind with
   | some k => decide (h.length.toNat ≠ k.payloadLength)
   | none => false)

/-- The outcome of checks 1 to 4: the faults found, in order, and the header and payload of a burst that passed. -/
structure Inspection where
  faults : List FaultKind
  intact : Option (Header × List Byte)
deriving DecidableEq, Repr

/-- Checks 3 and 4, on the symbols received after the header: length with a grace of 2, then the payload check (R83,
R84). -/
def inspectBody (h : Header) (body : List Byte) : Inspection :=
  let l := h.length.toNat
  if body.length < l + 2 then ⟨[.short], none⟩
  else if l + 4 < body.length then ⟨[.overrun], none⟩
  else if crc16 (body.take l) = body.getD l 0 ++ body.getD (l + 1) 0 then ⟨[], some (h, body.take l)⟩
  else ⟨[.checkBad], none⟩

/-- Checks 2 to 4: a header not received whole is SHORT; a bad one is HEADER_BAD and reports no repair; a repaired one
is HEADER_FIXED and goes on (R82, R83). -/
def inspectHeader (x : Burst) : Inspection :=
  match x.header with
  | none => ⟨[.short], none⟩
  | some h =>
    if headerBad h then ⟨[.headerBad], none⟩
    else
      let i := inspectBody h x.body
      if h.verdict = .corrected then ⟨.headerFixed :: i.faults, i.intact⟩ else i

/-- Checks 1 to 4 (R79): an incomplete preamble is SHORT and is not judged (R83). -/
def inspect (tol : Tolerance) (x : Burst) : Inspection :=
  if x.preambleErrors.length < 8 then ⟨[.short], none⟩
  else match judgePreamble tol x.preambleErrors with
    | .good => inspectHeader x
    | .fixed =>
      let i := inspectHeader x
      ⟨.preambleFixed :: i.faults, i.intact⟩
    | .lost => ⟨[.preambleLost], none⟩

/-! The Unknown-Kind Table (R94) -/

/-- An unknown kind is offered to the table: it is stored in the lowest-numbered empty entry, or sets the overflow flag,
and raises UNKNOWN_KIND; a kind already held, or a table already overflowed, changes nothing (R94). -/
def State.offerUnknown (b : Branch) (kind : BitVec 4) (s : State) : State :=
  if (List.finRange 4).any fun i : Fin 4 => s.unknown.entries[i] = some (b, kind) then s
  else match (List.finRange 4).find? fun i : Fin 4 => (s.unknown.entries[i]).isNone with
    | some i =>
      { s with unknown := { s.unknown with entries := s.unknown.entries.set i (some (b, kind)) } }.raise .unknownKind
    | none =>
      if s.unknown.overflow then s
      else { s with unknown := { s.unknown with overflow := true } }.raise .unknownKind

/-! HELLO (chapter 5) -/

/-- What an accepted burst carries (R89). -/
structure Report where
  serial : Serial
  tag : BitVec 3
  rawLevel : Nat
  observation : Steps
deriving DecidableEq, Repr

/-- The last observation of an arrival: absent when the hello's was all dark (R97). -/
def observed? (obs : Steps) : Option Steps := if obs = 0 then none else some obs

/-- A hello from a listed unbound serial refreshes its arrival in place (R99). -/
def Arrival.refresh (st : Settings) (r : Report) (a : Arrival) : Arrival :=
  { a with
    tag := r.tag, rawLevel := r.rawLevel, observation := observed? r.observation, age := 0,
    hellos := satInc a.hellos, providerOff := st.tagOff r.tag }

/-- A new arrival (R97, R100). -/
def Arrival.fresh (st : Settings) (r : Report) : Arrival :=
  ⟨r.serial, r.tag, r.rawLevel, observed? r.observation, 0, 1, st.tagOff r.tag⟩

/-- The refresh of the arrival of a serial listed on the branch (R99). -/
def State.refreshArrival (b : Branch) (r : Report) (s : State) : State :=
  s.setArrivals b { s.arrivalsOf b with
    items := (s.arrivalsOf b).items.map fun a => if a.serial = r.serial then a.refresh s.settings r else a }

/-- A serial not listed on the branch leaves any other list and is offered to this one: it is appended with ARRIVAL, or
is missed with ARRIVALS_FULL (R100). -/
def State.addArrival (b : Branch) (r : Report) (s : State) : State :=
  let s1 := s.unlist r.serial
  let l := s1.arrivalsOf b
  if l.items.length < Config.arrivalsLimit then
    (s1.setArrivals b { l with items := l.items ++ [Arrival.fresh s.settings r] }).raise .arrival
  else (s1.setArrivals b { l with missed := satInc l.missed }).raise .arrivalsFull

/-- A hello from a bound serial on its own branch (R101). -/
def State.helloOwnBranch (d : Drop) (s : State) : State :=
  match (s.entry d).state, s.jobOf d with
  | .active, _ => (s.setEntry d ((s.entry d).enter .bound)).rejoinRequest d
  | .silent, _ => (s.setEntry d ((s.entry d).enter .bound)).rejoinRequest d
  | .ranging, some j => s.abandonJob j
  | .bound, none => s.rejoinRequest d
  | _, _ => s

/-- A hello from a serial bound on another branch ends that entry's job, blocks it MOVED, and raises MOVED (R102). -/
def State.moveEntry (d : Drop) (s : State) : State :=
  let e := ((s.entry d).enter .blocked).result .moved
  let s1 := match s.jobOf d with
    | some j => s.endJob j e (some .jobFailed)
    | none => s.setEntry d e
  s1.raise .moved

/-- The Arrivals List takes an accepted HELLO (R98). -/
def State.takeHello (b : Branch) (r : Report) (s : State) : State :=
  match s.holderOf r.serial with
  | some d => if d.branch = b then s.helloOwnBranch d else (s.moveEntry d).addArrival b r
  | none => if s.listedOn b r.serial then s.refreshArrival b r else s.addArrival b r

/-! MATCH_REPLY (R54 to R59) -/

/-- The outcomes of the judgement of a match reply (R55). -/
inductive MatchVerdict where
  | ignored | crossed | unheard | providerOff | providerMismatch | levelLow | levelHigh | success
deriving DecidableEq, Repr

/-- The judgement of a match reply for the drop of the head job: the first test whose condition holds decides (R55). -/
def State.judgeMatch (s : State) (b : Branch) (d : Drop) (r : Report) : MatchVerdict :=
  let level := s.levelOf d r.rawLevel
  if r.observation ≠ bindingCode b then .ignored
  else if allDrops.any fun o => o ≠ d && (s.entry o).serial = some r.serial then .crossed
  else if !s.listedOn b r.serial then .unheard
  else if s.settings.tagOff r.tag then .providerOff
  else if r.tag ≠ 0 ∧ r.tag.toNat ≠ (s.entry d).provider then .providerMismatch
  else if level < s.settings.acceptLow then .levelLow
  else if s.settings.acceptHigh < level then .levelHigh
  else .success

/-- A refused reply blocks the entry with its reason and the reply's serial as last serial, and ends the job (R56). A
reply that reached step 6 leaves its effective level as the last level (R8, R55). -/
def State.refuseMatch (j : Job) (r : Report) (reason : LastResult) (levelJudged : Bool) (s : State) : State :=
  let e := ((s.entry j.drop).enter .blocked).result reason
  let e1 := { e with
    lastSerial := some r.serial
    lastLevel := if levelJudged then some (s.levelOf j.drop r.rawLevel) else e.lastLevel }
  s.endJob j e1 (some .jobFailed)

/-- The decided serial and decision of the current MATCH_LISTEN (R51). -/
def State.noteDecision (b : Branch) (n : Serial) (dec : Decision) (s : State) : State :=
  s.setBranch b { s.branch b with decided := some (n, dec) }

/-- A successful reply binds its terminal: the serial and last level are set, the arrival is removed, the job enters
RANGE with attempt count 0, and the binding generator is released and offered. The window is not released (R59). -/
def State.succeedMatch (b : Branch) (j : Job) (r : Report) (s : State) : State :=
  let e := (s.entry j.drop).enter .ranging
  let s1 := (s.noteDecision b r.serial .succeeded).setEntry j.drop
    { e with serial := some r.serial, lastLevel := some (s.levelOf j.drop r.rawLevel) }
  let s2 := (s1.unlist r.serial).setHead b fun k => { k with stage := .range, attempts := 0 }
  s2.detachAndOffer fun g => g.ownedBy (.binding b)

/-- A match reply under judgement (R55). -/
def State.judgeReply (b : Branch) (j : Job) (r : Report) (s : State) : State :=
  match s.judgeMatch b j.drop r with
  | .ignored => s
  | .crossed => s.refuseMatch j r .crossed false
  | .unheard => (s.noteDecision b r.serial .unheard).reportFault b .unheard
  | .providerOff => s.refuseMatch j r .providerOff false
  | .providerMismatch => s.refuseMatch j r .providerMismatch false
  | .levelLow => s.refuseMatch j r .levelLow true
  | .levelHigh => s.refuseMatch j r .levelHigh true
  | .success => s.succeedMatch b j r

/-- The Branch Controller takes a MATCH_REPLY: after a decision a reply with the decided serial is ignored and any other
is DOUBLE_REPLY (R54, R57). -/
def State.takeMatchReply (b : Branch) (r : Report) (s : State) : State :=
  match (s.branch b).decided with
  | some (n, _) => if r.serial = n then s else s.reportFault b .doubleReply
  | none =>
    match s.queue b with
    | j :: _ => if j.stage = .matching then s.judgeReply b j r else s
    | [] => s

/-! RANGE_REPLY (R61, R62, R64) -/

/-- A round trip beyond the equalised span, or an overflowed counter, ends the job RANGE_FAR with the entry BLOCKED
(R62). -/
def State.rangeFar (j : Job) (s : State) : State :=
  s.endJob j (((s.entry j.drop).enter .blocked).result .rangeFar) (some .jobFailed)

/-- A successful range: round trip and delay are set, the listening period ends, ADMIT goes out, the job enters ADMIT,
the admit wait starts at 3 s, and the window is granted again (R61, R62, R64). -/
def State.rangeDone (b : Branch) (j : Job) (trip : Nat) (s : State) : State :=
  let e := s.entry j.drop
  let delay := s.settings.span - trip
  let s1 := (s.setBranch b { (s.branch b).endListening with admitWait := some 3000 }).setEntry j.drop
    { e with roundTrip := some trip, delay := some delay }
  ((s1.setHead b fun k => { k with stage := .admitting }).sendCall b
    (.admitCall (e.serial.getD 0) delay e.provider)).grant b

/-- The Branch Controller takes a RANGE_REPLY with the range counter read when its preamble began: another serial, or a
preamble that began before the RANGE_CALL, is ignored; otherwise the RANGE_LISTEN ends and the reply is judged by that
counter and its mark (R61, R62, R77, log entry 10). -/
def State.takeRangeReply (b : Branch) (n : Serial) (c : Option RangeCounter) (s : State) : State :=
  match s.queue b, c with
  | j :: _, some c =>
    if j.stage = .range ∧ (s.entry j.drop).serial = some n then
      if c.overflow ∨ s.settings.span < c.count then s.rangeFar j else s.rangeDone b j c.count
    else s
  | _, _ => s

/-! PRESENCE (R65, R125 to R129) -/

/-- The level judgement of a presence burst: the effective level becomes the last level, and level drift is set outside
the accept window, raising LEVEL_DRIFT when it was clear, and cleared inside (R129). -/
def State.judgeLevel (d : Drop) (raw : Nat) (s : State) : State :=
  let level := s.levelOf d raw
  let out := decide (level < s.settings.acceptLow ∨ s.settings.acceptHigh < level)
  let s1 := s.setEntry d { s.entry d with lastLevel := some level, levelDrift := out }
  if out && !(s.entry d).levelDrift then s1.raise .levelDrift else s1

/-- The counting step of a burst in ACTIVE (R125). -/
def PresenceRecord.heard (p : PresenceRecord) : PresenceRecord := { p with lastInterval := p.running, running := 0 }

/-- The presence record created when an ADMIT stage completes (R65, R126). -/
def PresenceRecord.fresh (st : Settings) : PresenceRecord := ⟨0, 0, st.divisor, st.silenceLimit, false, false⟩

/-- A PRESENCE burst from the serial of an ACTIVE entry (R125). -/
def State.presenceActive (d : Drop) (raw : Nat) (s : State) : State :=
  (s.setEntry d { s.entry d with presence := (s.entry d).presence.map PresenceRecord.heard }).judgeLevel d raw

/-- A PRESENCE burst from the serial of a SILENT entry (R128). -/
def State.presenceSilent (d : Drop) (raw : Nat) (s : State) : State :=
  (s.setEntry d { s.entry d with
    presence := (s.entry d).presence.map fun p => { p with heardWhileSilent := true } }).judgeLevel d raw

/-- The PRESENCE burst that completes an ADMIT stage: the entry becomes ACTIVE with a new presence record, the burst is
taken as one of an ACTIVE entry, and the job ends DONE with JOB_DONE (R65, R126). -/
def State.completeAdmit (d : Drop) (j : Job) (raw : Nat) (s : State) : State :=
  let e := (s.entry d).enter .active
  let s1 := (s.setEntry d { e with presence := some (.fresh s.settings) }).presenceActive d raw
  s1.endJob j ((s1.entry d).result .done) (some .jobDone)

/-- The drop of the lane's own branch whose entry a PRESENCE burst with the serial belongs to: ACTIVE, SILENT or
admitting (R87). -/
def State.presenceDrop (s : State) (b : Branch) (n : Serial) : Option Drop :=
  match s.holderOf n with
  | some d =>
    if d.branch = b ∧ ((s.entry d).state = .active ∨ (s.entry d).state = .silent ∨
        ((s.entry d).state = .ranging ∧ s.jobField d = some .admitting)) then some d else none
  | none => none

/-- The Branch Controller and the Presence Supervisor take a PRESENCE burst (R89). -/
def State.takePresence (d : Drop) (raw : Nat) (s : State) : State :=
  match (s.entry d).state, s.jobOf d with
  | .active, _ => s.presenceActive d raw
  | .silent, _ => s.presenceSilent d raw
  | .ranging, some j => s.completeAdmit d j raw
  | _, _ => s

/-! Acceptance and dispatch (R85 to R89) -/

/-- The tag of an accepted burst joins the provider-seen set, and one that is not enabled is PROVIDER_OFF_SEEN (R88). -/
def State.noteProvider (b : Branch) (t : BitVec 3) (s : State) : State :=
  if t = 0 then s
  else
    let s1 := s.setLane b { s.lane b with seen := (s.lane b).seen ||| tagBit t }
    if s1.settings.tagOff t then s1.reportFault b .providerOffSeen else s1

/-- The window invites bursts of the kind (R86). -/
def BurstKind.invited (k : BurstKind) (w : Window) : Bool :=
  match k with
  | .hello => w = .openCall
  | .matchReply => w = .matchListen
  | .rangeReply => w = .rangeListen
  | .presence => true

/-- An accepted burst is handed on by kind. The Trace Unit gets the binding of the serial as it stood at the acceptance
(R89). -/
def State.handOn (b : Branch) (k : BurstKind) (r : Report) (c : Option RangeCounter) (s : State) : State :=
  match k with
  | .hello => (s.takeEcho r.serial b r.observation (s.holderOf r.serial)).takeHello b r
  | .matchReply => s.takeMatchReply b r
  | .rangeReply => s.takeRangeReply b r.serial c
  | .presence =>
    match s.presenceDrop b r.serial with
    | some d => (s.takeEcho r.serial b r.observation (some d)).takePresence d r.rawLevel
    | none => s

/-- Checks 6 to 8 and the dispatch of a burst of a known kind (R86 to R89). -/
def State.takeKnown (b : Branch) (k : BurstKind) (r : Report) (c : Option RangeCounter) (s : State) : State :=
  if !k.invited (s.branch b).window then s.reportFault b .stray
  else if k = .presence ∧ s.presenceDrop b r.serial = none then s.reportFault b .unboundPresence
  else (s.noteProvider b r.tag).handOn b k r c

/-- Check 5 and what follows for a burst that passed checks 1 to 4 (R85). -/
def State.takeIntact (b : Branch) (h : Header) (payload : List Byte) (c : Option RangeCounter) (s : State) : State :=
  match burstKindOf h.kind with
  | none => (s.reportFault b .unknownKind).offerUnknown b h.kind
  | some k => s.takeKnown b k ⟨h.serial, h.tag, payloadLevel payload, payloadObservation payload⟩ c

/-! The parts of a burst (R78, R79) -/

/-- The part of a burst at which a fault of checks 1 to 4 is found (R80 to R84). -/
def FaultKind.foundAt : FaultKind → BurstPart
  | .preambleFixed | .preambleLost => .preamble
  | .headerFixed | .headerBad => .header
  | .overrun => .grace
  | _ => .ended

/-- The faults found after one part of a burst and up to another (R79). -/
def foundBetween (before upTo : BurstPart) (faults : List FaultKind) : List FaultKind :=
  faults.filter fun k => before.rank < k.foundAt.rank && k.foundAt.rank ≤ upTo.rank

/-- A burst whose preamble begins: the tolerance in force and the branch's range counter are read (R61, R77, R80). -/
def State.newReception (s : State) (b : Branch) : Reception :=
  ⟨s.settings.tolerance, .begun, (s.branch b).rangeCounter, true⟩

/-- The burst in progress that a command is about; with none in progress, or at light that begins, a new one (R78). -/
def State.receptionOf (s : State) (b : Branch) (x : Burst) : Reception :=
  if x.upTo = .begun then s.newReception b else (s.lane b).rx.getD (s.newReception b)

/-- The burst in progress after a part of it: none at its end. -/
def Reception.after (r : Reception) (p : BurstPart) : Option Reception :=
  if p = .ended then none else if r.upTo.rank < p.rank then some { r with upTo := p } else some r

/-- The burst in progress on a lane is replaced. -/
def State.setReception (b : Branch) (r : Option Reception) (s : State) : State :=
  s.setLane b { s.lane b with rx := r }

/-- The faults that checks 1 to 4 find are reported in order (R79, R90). -/
def State.reportFound (b : Branch) (faults : List FaultKind) (s : State) : State :=
  faults.foldl (fun t k => t.reportFault b k) s

/-- A lost preamble closes the lane under the lane recovery CLOSE in force (R81, R91). -/
def State.afterPreamble (b : Branch) (faults : List FaultKind) (s : State) : State :=
  if .preambleLost ∈ faults ∧ s.settings.recovery = .close then s.closeLane b else s

/-- A part of a burst that the receiver does not take is only followed: nothing is found, and the rest of the burst is not
taken either (R78, R91, R92). -/
def State.ignoreBurst (b : Branch) (x : Burst) (s : State) : State :=
  s.setReception b ((s.receptionOf b x).ignored.after x.upTo)

/-- A part of a burst that the receiver takes: the checks that this part allows, and that are not yet made, run in order,
each fault reported as it is found (R79); a burst that has ended and passed checks 1 to 4 is taken on. -/
def State.takePart (b : Branch) (x : Burst) (r : Reception) (s : State) : State :=
  let i := inspect r.tolerance x
  let found := foundBetween r.upTo x.upTo i.faults
  let s1 := ((s.setReception b (r.after x.upTo)).reportFound b found).afterPreamble b found
  match i.intact, x.upTo with
  | some (h, payload), .ended => s1.takeIntact b h payload r.counter
  | _, _ => s1

/-- A Burst Receiver takes a burst, or the next part of one. The receivers take bursts only while the part is open and their
lane is OPEN, and none whose preamble began before that (R78, R91, R92). -/
def State.receive (b : Branch) (x : Burst) (s : State) : State :=
  let r := s.receptionOf b x
  if s.isRunning && x.inTime && !(s.lane b).closed && r.taken then s.takePart b x r else s.ignoreBurst b x

end Sys2Proof.Machine
end

