-- ==== Sys2Proof/Machine/Bursts.lean ====
section
/-! DEFINITION. The upstream bursts (R77 to R94). Which of these commands a burst is follows from its header and from what the
checks find, so each goes through the one Burst Receiver. -/

namespace Sys2Proof.Machine

/-- HELLO (R89, R98). -/
def execHello (b : Branch) (x : Burst) (s : State) : Result := .next (s.receive b x)

/-- MATCH_REPLY (R54, R89). -/
def execMatchReply (b : Branch) (x : Burst) (s : State) : Result := .next (s.receive b x)

/-- RANGE_REPLY (R61, R89). -/
def execRangeReply (b : Branch) (x : Burst) (s : State) : Result := .next (s.receive b x)

/-- PRESENCE (R87, R89). -/
def execPresence (b : Branch) (x : Burst) (s : State) : Result := .next (s.receive b x)

/-- UNKNOWN_KIND_BURST: an intact burst whose header carries an unknown kind (R85). -/
def execUnknownKindBurst (b : Branch) (_kind : BitVec 4) (x : Burst) (s : State) : Result := .next (s.receive b x)

/-- BAD_BURST: a burst the checks find at fault, whatever its kind (R80 to R84). -/
def execBadBurst (b : Branch) (_kind : BitVec 4) (x : Burst) (s : State) : Result := .next (s.receive b x)

/-- CLOSED_LANE_BURST: a burst whose preamble began while the lane was closed is discarded without a check (R91, R92), and
followed to its end alone. -/
def execClosedLaneBurst (b : Branch) (_kind : BitVec 4) (x : Burst) (s : State) : Result := .next (s.ignoreBurst b x)

end Sys2Proof.Machine
end

