-- ==== Sys2Proof/Machine/StoreOps.lean ====
section
/-! DEFINITION. The Commissioning Store: the layouts of its records (12.4), what the start-up scan finds in them (R147,
R148, R157 to R160), and the Store Controller's writes (R149 to R152). -/

namespace Sys2Proof.Machine

/-! Byte layouts (R184) -/

/-- The low byte of a number. -/
def byteOf (n : Nat) : Byte := BitVec.ofNat 8 n

/-- A number in `k` bytes, most significant byte first (R184). -/
def beBytes : Nat → Nat → List Byte
  | 0, _ => []
  | k + 1, n => byteOf (n / 256 ^ k) :: beBytes k n

/-- The body bytes of a slot: body kind, plot, provider, serial, offset code, delay, sequence. An EMPTY body holds zero in
every field except the sequence (12.4). -/
def SlotBody.bytes : SlotBody → List Byte
  | .empty seq => [0] ++ beBytes 12 0 ++ beBytes 3 seq
  | .filled b =>
    [1] ++ beBytes 2 b.plot ++ beBytes 1 b.provider ++ beBytes 6 b.serial.toNat ++ beBytes 1 b.offset ++
      beBytes 2 b.delay ++ beBytes 3 b.seq

/-- The sixteen two-byte setting values in setting-code order (12.4, READ_SETTINGS). -/
def Settings.bytes (st : Settings) : List Byte := settingOrder.flatMap fun k => beBytes 2 (st.value k)

/-- The body bytes of the header: the setting values, then the estate identity (12.4). -/
def headerBytes (st : Settings) (estateId : BitVec 32) : List Byte := st.bytes ++ beBytes 4 estateId.toNat

/-- A field of a body: the value of `n` bytes from byte `i` on. -/
def fieldAt (bs : List Byte) (i n : Nat) : Nat := bytesValue ((bs.drop i).take n)

/-- Every field of a FILLED body lies in its range (R147). -/
def FilledBody.inRange (b : FilledBody) : Bool :=
  1 ≤ b.plot && b.plot ≤ 4095 && 1 ≤ b.provider && b.provider ≤ 7 && b.serial ≠ 0 &&
  b.offset ≤ 127 && b.delay ≤ 4095 && 1 ≤ b.seq

/-- The FILLED body that body bytes hold. -/
def filledOf (bs : List Byte) : FilledBody where
  plot := fieldAt bs 1 2
  provider := fieldAt bs 3 1
  serial := BitVec.ofNat 48 (fieldAt bs 4 6)
  offset := fieldAt bs 10 1
  delay := fieldAt bs 11 2
  seq := fieldAt bs 13 3

/-- The slot body that body bytes hold, or none where a field the body kind carries lies outside its range (R147). -/
def slotBodyOf (bs : List Byte) : Option SlotBody :=
  if fieldAt bs 0 1 = 0 then
    if 1 ≤ fieldAt bs 13 3 then some (.empty (fieldAt bs 13 3)) else none
  else if fieldAt bs 0 1 = 1 then
    if (filledOf bs).inRange then some (.filled (filledOf bs)) else none
  else none

/-- The settings that coded values give, each put in turn over settings whose accept window is the whole range. -/
def settingsOf (bs : List Byte) : Option Settings :=
  settingOrder.zipIdx.foldl (fun acc p => acc.bind fun st => st.put p.1 (fieldAt bs (2 * p.2) 2))
    (some { Settings.factory with acceptLow := 0, acceptHigh := 100 })

/-! What the scan finds (R147, R148) -/

/-- The check agrees with the body, and no reset has cut the record's last write short (R147, R152). -/
def StoreRecord.sound (r : StoreRecord) : Bool := !r.cut && crc16 r.body = r.check

/-- The image of the body a completed write leaves (R151). -/
def SlotBody.image : SlotBody → SlotImage
  | .empty seq => .empty seq
  | .filled b => .filled b

/-- The image of a slot as the scan finds it (R147, R158). -/
def StoreRecord.found (r : StoreRecord) : SlotImage :=
  if r.marks = 0 then .never
  else if r.sound then
    match slotBodyOf r.body with
    | some body => body.image
    | none => .torn
  else .torn

/-- What the header holds: the settings and the estate identity of a good body (R148). -/
def StoreRecord.headerBody (r : StoreRecord) : Option (Settings × BitVec 32) :=
  if r.sound then (settingsOf r.body).map fun st => (st, BitVec.ofNat 32 (fieldAt r.body 32 4)) else none

/-! The scan (R157 to R160) -/

/-- The header image, the settings and the estate identity that the scan takes from the header (R157). -/
def State.headerFound (s : State) : HeaderImage × Settings × BitVec 32 :=
  if s.header.marks = 0 then (.never, .factory, 0)
  else match s.header.headerBody with
    | some (st, n) => (.good, st, n)
    | none => (.suspect, .factory, 0)

/-- The settings with the alarm level and monitor mode of others. -/
def Settings.keeping (st old : Settings) : Settings := { st with alarm := old.alarm, monitorMode := old.monitorMode }

/-- The scan reads the header (R157). After a supply reset the working alarm level and monitor mode are kept, and the
unsaved flag is set where they differ from what the header gave (R169, R179). -/
def State.readHeader (s : State) : State :=
  let (img, st, n) := s.headerFound
  let st1 := if s.keepThresholds then st.keeping s.settings else st
  let s1 := { s with
    startup := .scanning true, settings := st1, estateId := n, headerImage := img, unsaved := decide (st1 ≠ st) }
  if img = .suspect then s1.raise .storeSuspect else s1

/-- A filled candidate: the image of a drop's slot, where it is FILLED (R158). -/
def State.candidate (s : State) (d : Drop) : Option FilledBody :=
  match s.image d with
  | .filled b => some b
  | _ => none

/-- A candidate of another drop wins over this one: it holds the same serial with a greater commit sequence, or with an
equal one at a lower-numbered drop (R159). -/
def State.beaten (s : State) (d : Drop) (b : FilledBody) : Bool :=
  allDrops.any fun o =>
    match s.candidate o with
    | some c => o ≠ d && c.serial = b.serial && (b.seq < c.seq || (b.seq = c.seq && o < d))
    | none => false

/-- The entry the scan rebuilds from the image of its slot (Table 1-6, R158, R159). -/
def State.restored (s : State) (d : Drop) : Entry :=
  match s.candidate d with
  | none => .empty
  | some b =>
    if s.beaten d b then
      { Entry.empty with
        state := .planned, plot := b.plot, provider := b.provider, lastSerial := some b.serial,
        lastResult := .crossed }
    else
      { Entry.empty with
        state := .bound, plot := b.plot, provider := b.provider, serial := some b.serial,
        delay := some b.delay, offsetSource := .store }

/-- The commit sequence a good slot holds (R150). -/
def SlotImage.seq : SlotImage → Nat
  | .empty n => n
  | .filled b => b.seq
  | _ => 0

/-- One more than the greatest commit sequence of any good slot, and 1 when no slot is good (R150). -/
def State.seqAfterScan (s : State) : Nat := allDrops.foldl (fun n d => max n (s.image d).seq) 0 + 1

/-- The scan reads the slots, resolves the candidates, and sets the next sequence number; the controller becomes IDLE (R158
to R160). -/
def State.readSlots (s : State) : State :=
  let s1 := { s with images := Vector.ofFn fun d : Fin 64 => (s.slots[d]).found }
  let s2 := { s1 with
    roster := Vector.ofFn fun d : Fin 64 => s1.restored d, nextSeq := s1.seqAfterScan, controller := .idle }
  if allDrops.any fun d => s1.image d = .torn then s2.raise .storeSuspect else s2

/-! Writes (R149 to R152) -/

/-- The mark of the record is written and the Store Controller becomes WRITING (R149, R151). -/
def State.beginWrite (w : Write) (s : State) : State :=
  match w with
  | .slot d body =>
    { s.setSlot d { s.slot d with marks := (s.slot d).marks + 1 } with controller := .writing (.slot d body) }
  | .header st n =>
    { s with header := { s.header with marks := s.header.marks + 1 }, controller := .writing (.header st n) }

/-- A record holds a body whole, with its check (R151, stages 2 and 3). -/
def StoreRecord.written (r : StoreRecord) (body : List Byte) : StoreRecord :=
  { r with body := body, check := crc16 body, cut := false }

/-- The write in flight completes: the record holds the snapshot, its image is replaced, the controller is IDLE, and
STORE_DONE is raised (R151). -/
def State.completeWrite (w : Write) (s : State) : State :=
  let s1 := match w with
    | .slot d body => (s.setSlot d ((s.slot d).written body.bytes)).setImage d body.image
    | .header st n => { s with header := s.header.written (headerBytes st n), headerImage := .good }
  { s1 with controller := .idle }.raise .storeDone

/-- A power-on, pin or supply reset cuts the write in flight short: its record is torn, with its mark spent (R152). -/
def State.tearWrite (s : State) : State :=
  match s.controller with
  | .writing (.slot d _) => s.setSlot d { s.slot d with cut := true }
  | .writing (.header _ _) => { s with header := { s.header with cut := true } }
  | _ => s

end Sys2Proof.Machine
end

