-- ==== Sys2Proof/Machine/SupplyOps.lean ====
section
/-! DEFINITION. Supply thresholds (R162), entry into HOLD and exit from it (R47, R48, R163, R164), the four resets (R167 to
R169) and the end of the start-up scan (R171). -/

namespace Sys2Proof.Machine

/-! Thresholds in units of 0.1 V (R162) -/

/-- The alarm level. -/
def AlarmLevel.threshold : AlarmLevel → Nat
  | .a1 => 108 | .a2 => 114 | .a3 => 120

/-- The recovery level: alarm + 0.2 V. -/
def AlarmLevel.recovery (a : AlarmLevel) : Nat := a.threshold + 2

/-- The commit level: alarm + 0.6 V. -/
def AlarmLevel.commit (a : AlarmLevel) : Nat := a.threshold + 6

/-- The power-on threshold, 9.0 V, which no setting changes. -/
def powerOnThreshold : Nat := 90

/-- The supply is below the alarm level of the working setting. -/
def State.belowAlarm (s : State) : Bool := s.supply < s.settings.alarm.threshold

/-- The supply is below the recovery level. -/
def State.belowRecovery (s : State) : Bool := s.supply < s.settings.alarm.recovery

/-- The supply is below the commit level. -/
def State.belowCommit (s : State) : Bool := s.supply < s.settings.alarm.commit

/-! HOLD (R47, R48, R163, R164) -/

/-- A head job on entry into HOLD: from MATCH, RANGE or WAIT_TRACE it returns to WAITING with attempt count 0, a job in
RANGE as a REJOIN job; in ADMIT it continues (R47). -/
def Job.onHold (j : Job) : Job :=
  match j.stage with
  | .matching => { j with kind := .activate, stage := .waiting, attempts := 0 }
  | .range => { j with kind := .rejoin, stage := .waiting, attempts := 0 }
  | .waitTrace => { j with stage := .waiting, attempts := 0 }
  | _ => j

/-- The entry of a head job on entry into HOLD (R47). -/
def Entry.onHold (e : Entry) (stage : Stage) : Entry :=
  match stage with
  | .matching => (e.enter .planned).result .held
  | .range => (e.enter .bound).result .held
  | _ => e

/-- A Branch Controller on entry into HOLD: the timer stops, a due open call is cleared, the window is NONE, and the head
job returns; an admit wait runs on (R47). -/
def BranchCtl.onHold (c : BranchCtl) : BranchCtl :=
  { c.endListening with
    openTimer := none, openDue := false, frameMarks := none
    queue := match c.queue with
      | j :: js => j.onHold :: js
      | [] => [] }

/-- A branch on entry into HOLD, with the entry of its head job (R47). -/
def State.holdBranch (b : Branch) (s : State) : State :=
  let s1 := match s.queue b with
    | j :: _ => s.setEntry j.drop ((s.entry j.drop).onHold j.stage)
    | [] => s
  s1.setBranch b (s1.branch b).onHold

/-- The generator is owned by the binding of some branch. -/
def Generator.isBinding (g : Generator) : Bool :=
  match g.attached with
  | some (_, .binding _) => true
  | _ => false

/-- A fall: the monitor is LOW, the resume mode is the mode in force, the mode is HOLD, every branch acts on it, the binding
generators are released (no job waits for one in HOLD, R117), and SUPPLY_LOW is raised (R163). -/
def State.enterHold (s : State) : State :=
  let s1 := { s with
    monitor := .low, mode := .hold
    resume := match s.mode with
      | .survey => .survey
      | .live => .live
      | .hold => s.resume }
  ((allBranches.foldl (fun t b => t.holdBranch b) s1).detachWhere Generator.isBinding).raise .supplyLow

/-- An open call is due at once, and the open-call timer starts beside it (R37, log entry 8). -/
def State.dueOpenCalls (s : State) : State :=
  { s with branches := Vector.ofFn fun b : Fin 4 =>
      { s.branches[b] with openDue := true, openTimer := some s.settings.openPeriod } }

/-- Recovery: the monitor is OK, the mode is the resume mode, an open call is due on every branch, the heads in WAITING
start in LIVE, the windows are granted, and SUPPLY_OK is raised (R48, R164). -/
def State.leaveHold (s : State) : State :=
  ({ s with monitor := .ok, mode := s.resume.mode }.dueOpenCalls.proceedAll).raise .supplyOk

/-! Resets (R167 to R169, and the reset values of each chapter) -/

/-- The reset sources (R167). -/
inductive ResetSource where
  | powerOn | supply | pin | command
deriving DecidableEq, Repr

/-- A port's reset-cause copy when a source is taken (R168). -/
def ResetCauses.take (c : ResetCauses) : ResetSource → ResetCauses
  | .powerOn => ⟨true, false, false, false⟩
  | .supply => { c with supply := true }
  | .pin => { c with pin := true }
  | .command => { c with command := true }

/-- A port's record when a source is taken (R168, R174). A response not yet gone out is lost. -/
def PortRecord.reset (p : PortRecord) (src : ResetSource) : PortRecord where
  answer := .ready
  events := 0
  mask := 0
  causes := p.causes.take src
  badFrames := 0
  ignoring := false
  sent := p.sent

/-- A lane after a reset: a burst in progress is ignored to its end (R78), and the record of calls already sent stands (R74,
R90). -/
def Lane.reset (l : Lane) : Lane := ⟨0, 0, 0, false, l.rx.map Reception.ignored, l.calls⟩

/-- The working settings between a reset and the reading of the header: A2 and ALARM, but after a supply reset the alarm
level and monitor mode as they were (R169); the others are the factory values (log entry 5). -/
def Settings.afterReset (st : Settings) (src : ResetSource) : Settings :=
  match src with
  | .supply => Settings.factory.keeping st
  | _ => .factory

/-- The working state of every block after a reset (R17, R28, R51, R90, R94, R96, R107, R109, R133, R134, R144, R151, R169).
The store records, the sensed supply level, the holds and the command queue stand. The unsaved flag is clear until the scan
reads the header: R179 gives it for the end of the scan alone (log entry 5). -/
def State.clearWork (src : ResetSource) (s : State) : State :=
  { s with
    startup := .held
    keepThresholds := decide (src = .supply)
    restart := none
    monitor := .ok
    mode := .survey
    resume := .survey
    settings := s.settings.afterReset src
    estateId := 0
    unsaved := false
    ports := Vector.ofFn fun i : Fin 3 => (s.ports[i]).reset src
    roster := Vector.replicate 64 .empty
    claims := Vector.replicate 64 none
    lapses := Vector.replicate 2 0
    branches := Vector.replicate 4 .empty
    lanes := Vector.ofFn fun b : Fin 4 => (s.lanes[b]).reset
    arrivals := Vector.replicate 4 ⟨[], 0⟩
    ageLimitRead := none
    unknown := ⟨Vector.replicate 4 none, false⟩
    generators := Vector.replicate 8 .empty
    lastServed := 3
    frame := none
    baseTick := 0
    images := Vector.replicate 64 .never
    headerImage := .never
    nextSeq := 1
    controller := .scanning }

/-- The hold a source adds; a power-on reset replaces a supply reset's hold (R165, R167). -/
def State.addHold (src : ResetSource) (s : State) : State :=
  match src with
  | .powerOn => { s with powerOnHold := true, supplyHold := false }
  | .supply => { s with supplyHold := true }
  | .pin => { s with pinHold := true }
  | .command => s

/-- Holds whose cause has gone are released; when none is left the part leaves HELD and the scan starts (R167). -/
def State.settleHolds (s : State) : State :=
  let s1 := { s with
    powerOnHold := s.powerOnHold && decide (s.supply < powerOnThreshold)
    supplyHold := s.supplyHold && s.belowRecovery }
  if s1.startup = .held ∧ s1.powerOnHold = false ∧ s1.supplyHold = false ∧ s1.pinHold = false then
    { s1 with startup := .scanning false }
  else s1

/-- A reset source is taken: a write in flight is torn, the working state is cleared, the part is HELD while any source is
held, and then the scan starts (R152, R167). -/
def State.takeReset (src : ResetSource) (s : State) : State :=
  ((s.tearWrite.clearWork src).addHold src).settleHolds

/-! What the Supply Monitor calls for -/

/-- The Supply Monitor compares the present level with the working thresholds: a fall, a supply reset, a recovery, or
nothing (R163 to R166, R171). -/
def State.superviseSupply (s : State) : State :=
  match s.settings.monitorMode with
  | .reset =>
    if s.belowAlarm then s.takeReset .supply
    else if s.monitor = .low ∧ s.belowRecovery = false then s.leaveHold
    else s
  | .alarm =>
    match s.monitor with
    | .ok => if s.belowAlarm then s.enterHold else s
    | .low => if s.belowRecovery then s else s.leaveHold

/-- The end of the start-up scan: the header is read if it has not been, the slots are read, and the part opens; the mode
is the start mode, open calls are due, the frame timer and the ticks start, STARTED is raised, the windows are granted, and
the Supply Monitor compares the level (R157 to R160, R171). -/
def State.finishScan (headerRead : Bool) (s : State) : State :=
  let s1 := (if headerRead then s else s.readHeader).readSlots
  let s2 := { s1 with
    startup := .running
    mode := s1.settings.startMode.mode
    resume := s1.settings.startMode
    frame := some ⟨s1.settings.stepWidth, 1⟩
    baseTick := 0 }
  ((s2.dueOpenCalls.raise .started).proceedAll).superviseSupply

end Sys2Proof.Machine
end

