-- ==== Sys2Proof/Machine/PortOps.lean ====
section
/-! DEFINITION. The Port Unit: which frames are taken, the shared checks of a request in the order of R143, and its answer
(chapter 11, R142, R145, R170). -/

namespace Sys2Proof.Machine

/-! The request catalogue (11.6) -/

/-- The 37 request kinds, in the order of the catalogue. -/
inductive RequestKind where
  | readIdentity | readEntry | readArrivals | readQueue | readGenerator | readLane | readUnknownKinds
  | readSettings | readSupply | readStore | readClaims | readEvents | readResetCause | plan | unplan | withdraw
  | unblock | setOffset | clearSilence | activate | cancel | trace | untrace | claim | renew | release | revoke
  | commit | releaseSlot | saveSettings | setSetting | setMode | setAlertMask | clearLane | clearUnknownKinds
  | forgetArrival | restart
deriving DecidableEq, Repr

/-- The kind byte, from READ_IDENTITY 0x01 to RESTART 0x25 (12.2). -/
def RequestKind.code : RequestKind → Byte
  | .readIdentity => 0x01 | .readEntry => 0x02 | .readArrivals => 0x03 | .readQueue => 0x04
  | .readGenerator => 0x05 | .readLane => 0x06 | .readUnknownKinds => 0x07 | .readSettings => 0x08
  | .readSupply => 0x09 | .readStore => 0x0A | .readClaims => 0x0B | .readEvents => 0x0C
  | .readResetCause => 0x0D | .plan => 0x0E | .unplan => 0x0F | .withdraw => 0x10
  | .unblock => 0x11 | .setOffset => 0x12 | .clearSilence => 0x13 | .activate => 0x14
  | .cancel => 0x15 | .trace => 0x16 | .untrace => 0x17 | .claim => 0x18
  | .renew => 0x19 | .release => 0x1A | .revoke => 0x1B | .commit => 0x1C
  | .releaseSlot => 0x1D | .saveSettings => 0x1E | .setSetting => 0x1F | .setMode => 0x20
  | .setAlertMask => 0x21 | .clearLane => 0x22 | .clearUnknownKinds => 0x23 | .forgetArrival => 0x24
  | .restart => 0x25

/-- Who may send a request (R142). -/
inductive Role where
  | everyone | uplinkOnly | fieldOnly
deriving DecidableEq, Repr

/-- The role table (R142). Requests permitted to a field port "on drops the port holds" pass here for every drop. -/
def RequestKind.role : RequestKind → Role
  | .readIdentity | .readEntry | .readArrivals | .readQueue | .readGenerator | .readLane | .readUnknownKinds
  | .readSettings | .readSupply | .readClaims | .readEvents | .setAlertMask | .readResetCause => .everyone
  | .clearSilence | .activate | .cancel | .trace | .untrace => .everyone
  | .claim | .renew | .release => .fieldOnly
  | .readStore | .plan | .unplan | .withdraw | .unblock | .setOffset | .revoke | .commit | .releaseSlot
  | .saveSettings | .setSetting | .setMode | .clearLane | .clearUnknownKinds | .forgetArrival | .restart => .uplinkOnly

/-- The role table permits the request to the port (R142). -/
def RequestKind.permits (k : RequestKind) (p : Port) : Bool :=
  match k.role with
  | .everyone => true
  | .uplinkOnly => p = .uplink
  | .fieldOnly => p ≠ .uplink

/-- READ_IDENTITY and READ_RESET_CAUSE are answered during the scan as in RUNNING (R170). -/
def RequestKind.duringScan : RequestKind → Bool
  | .readIdentity | .readResetCause => true
  | _ => false

/-! Answers -/

/-- The status and data of an answer (R177). -/
structure Answer where
  status : Status
  data : List Byte
deriving DecidableEq, Repr

/-- OK with no data. -/
def Answer.ok : Answer := ⟨.ok, []⟩

/-- A status with no data. -/
def Answer.just (st : Status) : Answer := ⟨st, []⟩

/-- The port takes a frame: the frame began in time (R174, R176), and the port is READY, does not ignore bytes, and is
not held by a reset (R170, R175, R176). -/
def State.takesFrame (s : State) (p : Port) (inTime : Bool) : Bool :=
  inTime && s.startup ≠ .held && (s.port p).answer = .ready && !(s.port p).ignoring

/-- The port becomes ANSWERING with the response to the request (R175, R177). -/
def State.respond (s : State) (r : Request) (kind : Byte) (a : Answer) : State :=
  s.setPort r.port { s.port r.port with answer := .answering (some ⟨r.tag, kind, a.status, a.data⟩) }

/-- The response frame has gone out and the port is READY again (R176). -/
def State.sendOut (s : State) (p : Port) : State :=
  match (s.port p).answer with
  | .answering (some resp) =>
    s.setPort p { s.port p with answer := .ready, sent := (s.port p).sent ++ [resp] }
  | _ => s

/-- A request frame is taken (R170, R175 to R177): a frame the port does not take is lost; during the scan every known
kind but two is answered STARTING; a port the role table does not name is answered NOT_PERMITTED; otherwise the owning
block acts and gives the answer. -/
def State.takeRequest (k : RequestKind) (r : Request) (act : State → State × Answer) (s : State) : State :=
  if !s.takesFrame r.port r.inTime then s
  else if !s.isRunning && !k.duringScan then s.respond r k.code (.just .starting)
  else if !k.permits r.port then s.respond r k.code (.just .notPermitted)
  else
    let out := act s
    out.1.respond r k.code out.2

/-! Checks (R143): the first that fails decides the answer, and the request then changes nothing. -/

/-- A check that fails with the status when the condition holds. -/
def failIf (c : Bool) (st : Status) : Option Status := if c then some st else none

/-- The first check that fails. -/
def firstFailure : List (Option Status) → Option Status
  | [] => none
  | some st :: _ => some st
  | none :: cs => firstFailure cs

/-- A refused request changes nothing and its answer carries no data; one that passes every check has its effect (R177).
-/
def checked (s : State) (checks : List (Option Status)) (effect : State × Answer) : State × Answer :=
  match firstFailure checks with
  | some st => (s, .just st)
  | none => effect

/-- A parameter of the wrong length or out of range is answered BAD_PARAMETER (R185). -/
def withParams {α : Type} (s : State) (params : Option α) (act : α → State × Answer) : State × Answer :=
  match params with
  | some v => act v
  | none => (s, .just .badParameter)

/-- The claim check of R143: a field port acts on drops it holds; the Uplink does not change a drop that a field port
holds. -/
def State.claimCheck (s : State) (p : Port) (d : Drop) : Option Status :=
  match p.field with
  | some f => failIf (!s.holds f d) .notClaimed
  | none => failIf (s.claim d).isSome .claimed

/-- Requests refused MODE in SURVEY (R145). -/
def State.surveyCheck (s : State) : Option Status := failIf (s.mode = .survey) .mode

end Sys2Proof.Machine
end

