-- ==== Sys2Proof/Machine/Layout.lean ====
section
/-! DEFINITION. Codes of named values and the byte layouts of frames and read-outs (R184, 12.2, 12.3). -/

namespace Sys2Proof.Machine

/-! Codes: a named value is coded by its position in the list that defines it (R184). -/

/-- Entry states, Table 1-2. -/
def EntryState.code : EntryState → Nat
  | .vacant => 0 | .planned => 1 | .binding => 2 | .ranging => 3 | .bound => 4 | .active => 5 | .silent => 6
  | .blocked => 7

/-- Offset sources. -/
def OffsetSource.code : OffsetSource → Nat
  | .working => 0 | .store => 1

/-- Last results, Table 1-1. -/
def LastResult.code : LastResult → Nat
  | .none => 0 | .done => 1 | .noAnswer => 2 | .crossed => 3 | .providerOff => 4 | .providerMismatch => 5
  | .levelLow => 6 | .levelHigh => 7 | .rangeFar => 8 | .noPresence => 9 | .cancelled => 10 | .moved => 11
  | .held => 12

/-- Store statuses, Table 1-1. -/
def StoreStatus.code : StoreStatus → Nat
  | .none => 0 | .matches => 1 | .differs => 2 | .suspect => 3

/-- Stages, R27. -/
def Stage.code : Stage → Nat
  | .waiting => 0 | .waitTrace => 1 | .matching => 2 | .range => 3 | .admitting => 4

/-- The job field of an entry, Table 1-1: none is 0. -/
def jobCode : Option Stage → Nat
  | none => 0
  | some st => st.code + 1

/-- Job kinds, R27. -/
def JobKind.code : JobKind → Nat
  | .activate => 0 | .rejoin => 1

/-- Ports: Uplink 0, Field 1 1, Field 2 2. -/
def portCode : Port → Nat
  | .uplink => 0 | .field1 => 1 | .field2 => 2

/-- Requesters, R27. -/
def Requester.code : Requester → Nat
  | .port p => portCode p
  | .roster => 3

/-- Window states, R35. -/
def Window.code : Window → Nat
  | .none => 0 | .openCall => 1 | .matchListen => 2 | .rangeListen => 3

/-- Owners of a generator: ports as ports, the binding of branch b as 4 + b (12.3). -/
def Owner.code : Owner → Nat
  | .port p => portCode p
  | .binding b => 4 + b.val

/-- Modes: SURVEY 0, LIVE 1, HOLD 2. -/
def Mode.code : Mode → Nat
  | .survey => 0 | .live => 1 | .hold => 2

/-- Slot images, R147. -/
def SlotImage.code : SlotImage → Nat
  | .never => 0 | .empty _ => 1 | .filled _ => 2 | .torn => 3

/-- Header images, R148. -/
def HeaderImage.code : HeaderImage → Nat
  | .never => 0 | .good => 1 | .suspect => 2

/-- Monitor states, 10.2. -/
def MonitorState.code : MonitorState → Nat
  | .ok => 0 | .low => 1

/-- Statuses, 11.5: OK 0x00 to UNKNOWN_REQUEST 0x16. -/
def Status.code : Status → Nat
  | .ok => 0 | .queued => 1 | .accepted => 2 | .alreadyHeld => 3 | .notPermitted => 4 | .mode => 5 | .claimed => 6
  | .notClaimed => 7 | .claimLimit => 8 | .lapsed => 9 | .wrongState => 10 | .jobPending => 11 | .queueFull => 12
  | .noGenerator => 13 | .patternInUse => 14 | .badPattern => 15 | .badParameter => 16 | .storeBusy => 17
  | .storeSpent => 18 | .supplyLow => 19 | .starting => 20 | .notFound => 21 | .unknownRequest => 22

/-- Flags as a bit map: the first flag is bit 0. -/
def flagBits : List Bool → Nat
  | [] => 0
  | f :: fs => f.toNat + 2 * flagBits fs

/-- One byte of an optional number: an absent field is sent as zero bytes (R184). -/
def optByte (v : Option Nat) : Byte := byteOf (v.getD 0)

/-- The six bytes of an optional serial. -/
def optSerial (v : Option Serial) : List Byte := beBytes 6 (v.getD 0).toNat

/-! Read-outs (12.3) -/

/-- The presence record's four bytes in the entry read-out. -/
def presenceBytes (p : Option PresenceRecord) : List Byte :=
  match p with
  | some r => [byteOf r.running, byteOf r.lastInterval, byteOf r.divisor, byteOf r.silenceLimit]
  | none => [0, 0, 0, 0]

/-- The claim holder (none 0, Field 1 1, Field 2 2) and the lease. -/
def claimBytes (c : Option Claim) : List Byte :=
  match c with
  | some v => [byteOf (portCode v.holder.port), byteOf v.lease]
  | none => [0, 0]

/-- The entry read-out of READ_ENTRY, 37 bytes (R24, 12.3). -/
def State.entryBytes (s : State) (d : Drop) : List Byte :=
  let e := s.entry d
  [byteOf d.val, byteOf d.branch.val, byteOf e.state.code,
    byteOf (flagBits [e.serial.isSome, e.lastSerial.isSome, e.lastLevel.isSome, e.roundTrip.isSome, e.delay.isSome,
      e.presence.isSome, (s.claim d).isSome])] ++
  beBytes 2 e.plot ++ [byteOf e.provider] ++ optSerial e.serial ++ optSerial e.lastSerial ++
  [byteOf e.workingOffset, byteOf e.offsetSource.code, optByte e.lastLevel] ++
  beBytes 2 (e.roundTrip.getD 0) ++ beBytes 2 (e.delay.getD 0) ++
  [byteOf (flagBits [e.levelDrift, e.rejoinPending, (e.presence.map PresenceRecord.frozen).getD false,
      (e.presence.map PresenceRecord.heardWhileSilent).getD false]),
    byteOf (jobCode (s.jobField d)), byteOf e.lastResult.code, byteOf (s.storeStatus d).code,
    byteOf (s.commitCount d)] ++
  presenceBytes e.presence ++ claimBytes (s.claim d)

/-- One arrival of READ_ARRIVALS, 13 bytes. -/
def Arrival.bytes (a : Arrival) : List Byte :=
  beBytes 6 a.serial.toNat ++ [byteOf a.tag.toNat, byteOf a.rawLevel] ++
    beBytes 2 (a.observation.getD 0).toNat ++ [byteOf a.age, byteOf a.hellos, byteOf (flagBits [a.providerOff])]

/-- The arrivals read-out (R106). -/
def State.arrivalsBytes (s : State) (b : Branch) : List Byte :=
  let l := s.arrivalsOf b
  [byteOf b.val, byteOf l.missed, byteOf l.items.length] ++ l.items.flatMap Arrival.bytes

/-- One job of READ_QUEUE, 5 bytes. -/
def Job.bytes (j : Job) : List Byte :=
  [byteOf j.drop.val, byteOf j.kind.code, byteOf j.stage.code, byteOf j.requester.code, byteOf j.attempts]

/-- The queue read-out (R50). The pending map has bit i for drop 16 × branch + i. -/
def State.queueBytes (s : State) (b : Branch) : List Byte :=
  let c := s.branch b
  [byteOf b.val, byteOf c.window.code, byteOf (flagBits [c.openDue]), byteOf c.queue.length] ++
    c.queue.flatMap Job.bytes ++ beBytes 2 (flagBits ((dropsOf b).map fun d => (s.entry d).rejoinPending))

/-- The generator read-out, 20 bytes (R121). -/
def State.genBytes (s : State) (g : Gen) : List Byte :=
  let x := s.gen g
  [byteOf g.val, byteOf (flagBits [x.attached.isSome, x.echo.first.isSome]),
    optByte (x.attached.map fun a => a.1.val), optByte (x.attached.map fun a => a.2.code)] ++
  beBytes 2 x.pattern.toNat ++ [byteOf x.length] ++ beBytes 2 x.observed.toNat ++ [byteOf x.echo.count] ++
  optSerial (x.echo.first.map Prod.fst) ++ [optByte (x.echo.first.map fun f => f.2.val)] ++
  [byteOf (flagBits [x.echo.wrongBranch, x.echo.boundElsewhere, x.echo.multiple]),
    byteOf (flagBits ((allBranches.map fun b => (s.bindingWait b).isSome) ++
      allBranches.map fun b => decide (s.bindingWait b = some .eligible))),
    byteOf s.lastServed.val]

/-- The lane read-out (R93). -/
def State.laneBytes (s : State) (b : Branch) : List Byte :=
  let l := s.lane b
  [byteOf b.val, byteOf l.closed.toNat] ++ beBytes 2 l.flags.toNat ++
    [byteOf l.count, l.seen, byteOf (s.arrivalsOf b).missed]

/-- One entry of the Unknown-Kind Table: valid bit 7, branch bits 5..4, kind bits 3..0. -/
def unknownByte (e : Option (Branch × BitVec 4)) : Byte :=
  match e with
  | some (b, k) => byteOf (128 + 16 * b.val + k.toNat)
  | none => 0

/-- The Unknown-Kind read-out (R95). The overflow flag is bit 0 of its byte (log entry 31). -/
def State.unknownBytes (s : State) : List Byte :=
  ((List.finRange 4).map fun i : Fin 4 => unknownByte s.unknown.entries[i]) ++ [byteOf s.unknown.overflow.toNat]

/-- The settings read-out (R179). The unsaved flag is bit 0 of its byte (log entry 31). -/
def State.settingsBytes (s : State) : List Byte :=
  s.settings.bytes ++ beBytes 4 s.estateId.toNat ++ [byteOf s.unsaved.toNat]

/-- The supply read-out (R173). -/
def State.supplyBytes (s : State) : List Byte :=
  let st := s.settings
  [byteOf s.supply, byteOf (st.value .alarm), byteOf st.alarm.threshold, byteOf st.alarm.recovery,
    byteOf st.alarm.commit, byteOf (st.value .monitorMode), byteOf s.monitor.code, byteOf s.mode.code,
    byteOf s.resume.mode.code,
    byteOf (match s.controller with
      | .writing _ => 1
      | _ => 0)]

/-- The controller and the slot being written, in READ_STORE: IDLE 0, WRITING slot 1, WRITING header 2. -/
def Controller.bytes : Controller → List Byte
  | .writing (.slot d _) => [1, byteOf d.val]
  | .writing (.header _ _) => [2, 0]
  | _ => [0, 0]

/-- The body part of READ_STORE for a slot: FILLED shows every field, EMPTY its commit sequence (R161). -/
def SlotImage.bytes : SlotImage → List Byte
  | .filled b =>
    beBytes 2 b.plot ++ beBytes 1 b.provider ++ beBytes 6 b.serial.toNat ++ beBytes 1 b.offset ++
      beBytes 2 b.delay ++ beBytes 3 b.seq
  | .empty n => beBytes 12 0 ++ beBytes 3 n
  | _ => beBytes 15 0

/-- The estate identity and start mode the header holds, shown while its image is GOOD (R161). -/
def State.headerShown (s : State) : List Byte :=
  match s.headerImage, s.header.headerBody with
  | .good, some (st, n) => beBytes 4 n.toNat ++ [byteOf (st.value .startMode)]
  | _, _ => [0, 0, 0, 0, 0]

/-- The store read-out (R161). -/
def State.storeBytes (s : State) : StoreName → List Byte
  | .slot d =>
    [byteOf d.val, byteOf (s.commitCount d), byteOf (s.image d).code] ++ s.controller.bytes ++ beBytes 2 s.nextSeq ++
      (s.image d).bytes
  | .header =>
    [0xFF, byteOf s.header.marks, byteOf s.headerImage.code] ++ s.controller.bytes ++ beBytes 2 s.nextSeq ++
      s.headerShown

/-- A bit map of 64 marks in 8 bytes: bit d of byte d div 8 for drop d (12.3). -/
def markBytes (m : BitVec 64) : List Byte := (List.range 8).map fun i => (m >>> (8 * i)).truncate 8

/-- The claims read-out (R141). -/
def State.claimsBytes (s : State) : List Byte :=
  let held := allDrops.filterMap fun d => (s.claim d).map fun c => (d, c)
  [byteOf held.length] ++
    held.flatMap (fun p => [byteOf p.1.val, byteOf (portCode p.2.holder.port), byteOf p.2.lease]) ++
    [byteOf (s.claimCount .field1), byteOf (s.claimCount .field2)] ++
    markBytes s.lapses[FieldPort.field1.index] ++ markBytes s.lapses[FieldPort.field2.index]

/-- The identity read-out (R178): part identity 0x0264, port, start-up state (SCANNING 0, RUNNING 1), estate identity,
bad-frame count. -/
def State.identityBytes (s : State) (p : Port) : List Byte :=
  beBytes 2 0x0264 ++ [byteOf (portCode p), byteOf s.isRunning.toNat] ++ beBytes 4 s.estateId.toNat ++
    [byteOf (s.port p).badFrames]

/-- The reset-cause byte: POWER_ON, SUPPLY, PIN, COMMAND are bits 0..3 (R184). -/
def ResetCauses.byte (c : ResetCauses) : Byte := byteOf (flagBits [c.powerOn, c.supply, c.pin, c.command])

/-! Frames (12.2) -/

/-- A frame: its marker, its bytes, and the check over every byte after the marker. -/
def framed (marker : Byte) (bytes : List Byte) : List Byte :=
  marker :: bytes ++ beBytes 2 (crc16 bytes).toNat

/-- The bytes of a response frame. -/
def Response.frame (r : Response) : List Byte :=
  framed 0x3C ([r.tag, r.kind, byteOf r.status.code, byteOf r.data.length] ++ r.data)

/-- The bytes of a request frame of the given kind. -/
def requestFrame (kind : Byte) (r : Request) : List Byte :=
  framed 0xC3 ([kind, r.tag, byteOf r.params.length] ++ r.params)

end Sys2Proof.Machine
end

