-- ==== Sys2Proof/Machine/ClaimRequests.lean ====
section
/-! DEFINITION. The Claim Table: CLAIM, RENEW, RELEASE, REVOKE (R135 to R138) and the end of claims (R114, R133, R139). -/

namespace Sys2Proof.Machine

/-- The generator is attached to the drop and owned by the field port (R114). -/
def Generator.tracedBy (f : FieldPort) (d : Drop) (g : Generator) : Bool := g.on d && g.ownedBy (.port f.port)

/-- The drop's claim is created, or its lease renewed, with the lease setting in force (R135, R136). -/
def State.grantClaim (f : FieldPort) (d : Drop) (s : State) : State :=
  s.setClaim d (some ⟨f, s.settings.lease⟩)

/-- A claim ended against its holder's will: it becomes absent, the lapse mark is set, and CLAIM_ENDED is raised in the
holder's copy (R138, R139). -/
def State.loseClaim (f : FieldPort) (d : Drop) (s : State) : State :=
  ((s.setClaim d none).setLapse f d).raiseFor f .claimEnded

/-- The answer of CLAIM and RENEW that carries the lease in force. -/
def State.leaseAnswer (s : State) (st : Status) : Answer := ⟨st, [byteOf s.settings.lease]⟩

/-- CLAIM by a field port, cases 4 to 7 of R135. -/
def State.claimDrop (f : FieldPort) (d : Drop) (s : State) : State × Answer :=
  match s.claim d with
  | some c =>
    if c.holder = f then (s.grantClaim f d, s.leaseAnswer .alreadyHeld) else (s, .just .claimed)
  | none =>
    if Config.claimLimit ≤ s.claimCount f then (s, .just .claimLimit)
    else ((s.grantClaim f d).clearLapse f d, s.leaseAnswer .ok)

/-- The answer to a RENEW or RELEASE of a drop the port does not hold (R134, R136). -/
def State.notHeld (s : State) (f : FieldPort) (d : Drop) : Answer :=
  .just (if s.lapsed f d then .lapsed else .notClaimed)

/-- A request of a field port on a drop; the role table keeps the Uplink out (R142). -/
def withField (s : State) (p : Port) (act : FieldPort → State × Answer) : State × Answer :=
  match p.field with
  | some f => act f
  | none => (s, .just .notPermitted)

/-- CLAIM (R135). -/
def execClaim (r : Request) (s : State) : Result :=
  .next (s.takeRequest .claim r fun t =>
    withParams t (parseDrop r.params) fun d => withField t r.port fun f => t.claimDrop f d)

/-- RENEW (R136). -/
def execRenew (r : Request) (s : State) : Result :=
  .next (s.takeRequest .renew r fun t =>
    withParams t (parseDrop r.params) fun d => withField t r.port fun f =>
      if t.holds f d then (t.grantClaim f d, t.leaseAnswer .ok) else (t, t.notHeld f d))

/-- The claim of a drop ends by RELEASE: the holder's generators on the drop detach, the claim becomes absent, and the freed
generators are offered (R137). -/
def State.releaseClaim (f : FieldPort) (d : Drop) (s : State) : State :=
  (s.detachAndOffer (Generator.tracedBy f d)).setClaim d none

/-- RELEASE (R137). -/
def execRelease (r : Request) (s : State) : Result :=
  .next (s.takeRequest .release r fun t =>
    withParams t (parseDrop r.params) fun d => withField t r.port fun f =>
      if t.holds f d then (t.releaseClaim f d, .ok) else (t, t.notHeld f d))

/-- The claim of a drop ends against its holder's will, and the freed generators are offered (R138). -/
def State.revokeClaim (f : FieldPort) (d : Drop) (s : State) : State :=
  (s.detachAndOffer (Generator.tracedBy f d)).loseClaim f d

/-- REVOKE (R138). -/
def execRevoke (r : Request) (s : State) : Result :=
  .next (s.takeRequest .revoke r fun t =>
    withParams t (parseDrop r.params) fun d =>
      match t.claim d with
      | some c => (t.revokeClaim c.holder d, .ok)
      | none => (t, .just .notFound))

/-! Leases at the minute tick (R139) -/

/-- The lease remaining of a claim falls by one. -/
def Claim.tick (c : Claim) : Claim := { c with lease := c.lease - 1 }

/-- The lease of every claim falls by one (R139). -/
def State.tickLeases (s : State) : State :=
  { s with claims := Vector.ofFn fun d : Fin 64 => (s.claims[d]).map Claim.tick }

/-- The drop's claim has no lease left. -/
def State.leaseOut (s : State) (d : Drop) : Option FieldPort :=
  match s.claim d with
  | some c => if c.lease = 0 then some c.holder else none
  | none => none

/-- The generator traces a drop whose claim is about to lapse, for that claim's holder. -/
def State.lapsing (s : State) (g : Generator) : Bool :=
  match g.attached with
  | some (d, o) => (match s.leaseOut d with
    | some f => decide (o = .port f.port)
    | none => false)
  | none => false

/-- Every claim whose lease is 0 ends by lapse, in ascending drop order; all of them have ended before the freed generators
are offered, lowest-numbered first (R139). -/
def State.lapseAll (s : State) : State :=
  let ended := allDrops.foldl
    (fun t d => match s.leaseOut d with
      | some f => t.loseClaim f d
      | none => t)
    (s.detachWhere s.lapsing)
  ended.offerAll (s.gensWhere s.lapsing)

end Sys2Proof.Machine
end

