-- ==== Sys2Proof/Machine/RosterRequests.lean ====
section
/-! DEFINITION. The requests that act on roster entries: PLAN, UNPLAN, WITHDRAW, UNBLOCK, SET_OFFSET (R18 to R23) and
CLEAR_SILENCE (R130, R131). -/

namespace Sys2Proof.Machine

/-- The entry has none of the states named: the request is answered WRONG_STATE (R18). -/
def State.stateCheck (s : State) (d : Drop) (accepted : List EntryState) : Option Status :=
  failIf ((s.entry d).state ∉ accepted) .wrongState

/-- A drop with a job in one of the states named is answered JOB_PENDING (R18). -/
def State.jobCheck (s : State) (d : Drop) (states : List EntryState) : Option Status :=
  failIf ((s.entry d).state ∈ states ∧ (s.jobField d).isSome) .jobPending

/-- The entry takes the given plot and provider and becomes, or stays, PLANNED (R19). -/
def State.plan (s : State) (v : PlanParams) : State :=
  s.setEntry v.drop { (s.entry v.drop).enter .planned with plot := v.plot, provider := v.provider }

/-- The checks and effect of PLAN. -/
def planBody (r : Request) (s : State) : State × Answer :=
  withParams s (parsePlan r.params) fun v =>
    checked s [s.claimCheck r.port v.drop, s.stateCheck v.drop [.vacant, .planned], s.jobCheck v.drop [.planned]]
      (s.plan v, .ok)

/-- PLAN (R18, R19). -/
def execPlan (r : Request) (s : State) : Result := .next (s.takeRequest .plan r (planBody r))

/-- The checks and effect of UNPLAN. -/
def unplanBody (r : Request) (s : State) : State × Answer :=
  withParams s (parseDrop r.params) fun d =>
    checked s [s.surveyCheck, s.claimCheck r.port d, s.stateCheck d [.planned, .blocked], s.jobCheck d [.planned]]
      (s.setEntry d ((s.entry d).enter .vacant), .ok)

/-- UNPLAN (R18, R20). -/
def execUnplan (r : Request) (s : State) : Result := .next (s.takeRequest .unplan r (unplanBody r))

/-- The terminal is withdrawn: an ACTIVE or SILENT entry's serial goes out in a WITHDRAW call, and the entry becomes
PLANNED without a last level (R21). -/
def State.withdraw (d : Drop) (s : State) : State :=
  let e := s.entry d
  let s1 := if e.state = .active ∨ e.state = .silent then s.sendCall d.branch (.withdraw (e.serial.getD 0)) else s
  s1.setEntry d { e.enter .planned with lastLevel := none }

/-- The checks and effect of WITHDRAW. The state is judged before the job (R18): where a hello's REJOIN job has started
at once in LIVE (R39), the entry is RANGING and the answer is WRONG_STATE, as in R73, and not R21's JOB_PENDING (log
entry 29). -/
def withdrawBody (r : Request) (s : State) : State × Answer :=
  withParams s (parseDrop r.params) fun d =>
    checked s [s.surveyCheck, s.claimCheck r.port d, s.stateCheck d [.active, .silent, .bound], s.jobCheck d [.bound]]
      (s.withdraw d, .ok)

/-- WITHDRAW (R18, R21). -/
def execWithdraw (r : Request) (s : State) : Result := .next (s.takeRequest .withdraw r (withdrawBody r))

/-- The checks and effect of UNBLOCK. -/
def unblockBody (r : Request) (s : State) : State × Answer :=
  withParams s (parseDrop r.params) fun d =>
    checked s [s.surveyCheck, s.claimCheck r.port d, s.stateCheck d [.blocked]]
      (s.setEntry d ((s.entry d).enter .planned), .ok)

/-- UNBLOCK (R18, R22). -/
def execUnblock (r : Request) (s : State) : Result := .next (s.takeRequest .unblock r (unblockBody r))

/-- The working offset and offset source of the entry are set (R23). -/
def State.setOffset (s : State) (v : OffsetParams) : State :=
  s.setEntry v.drop { s.entry v.drop with workingOffset := v.code, offsetSource := v.source }

/-- The checks and effect of SET_OFFSET. -/
def setOffsetBody (r : Request) (s : State) : State × Answer :=
  withParams s (parseOffset r.params) fun v =>
    checked s [s.surveyCheck, s.claimCheck r.port v.drop] (s.setOffset v, .ok)

/-- SET_OFFSET (R18, R23). -/
def execSetOffset (r : Request) (s : State) : Result := .next (s.takeRequest .setOffset r (setOffsetBody r))

/-- A cleared silence: counts 0, heard-while-silent clear, not frozen; the divisor and the limit are kept (R131). -/
def PresenceRecord.clearSilence (p : PresenceRecord) : PresenceRecord :=
  { p with running := 0, lastInterval := 0, frozen := false, heardWhileSilent := false }

/-- The SILENT entry becomes ACTIVE with its silence cleared (R131). -/
def State.clearSilence (d : Drop) (s : State) : State :=
  s.setEntry d { (s.entry d).enter .active with
    presence := (s.entry d).presence.map PresenceRecord.clearSilence }

/-- The checks and effect of CLEAR_SILENCE. The claim is judged before the state (R130): of two requests for one drop
from two ports, the one that may not act on the drop is answered CLAIMED or NOT_CLAIMED whichever comes first, and not
the WRONG_STATE of R131's last race row (log entry 33). -/
def clearSilenceBody (r : Request) (s : State) : State × Answer :=
  withParams s (parseDrop r.params) fun d =>
    checked s [s.surveyCheck, s.claimCheck r.port d, s.stateCheck d [.silent]] (s.clearSilence d, .ok)

/-- CLEAR_SILENCE (R130, R131). -/
def execClearSilence (r : Request) (s : State) : Result :=
  .next (s.takeRequest .clearSilence r (clearSilenceBody r))

end Sys2Proof.Machine
end

