-- ==== Sys2Proof/Machine/JobRequests.lean ====
section
/-! DEFINITION. ACTIVATE (R30, R31) and CANCEL (R44, R45). -/

namespace Sys2Proof.Machine

/-- The kind of the job an ACTIVATE appends (R31). -/
def EntryState.activateKind (st : EntryState) : JobKind := if st = .bound then .rejoin else .activate

/-- The job joins at the tail, and starts at once if it is the head and the mode is LIVE (R31, R39). -/
def State.activate (p : Port) (d : Drop) (s : State) : State :=
  (s.appendJob d (s.entry d).state.activateKind (.port p)).proceed d.branch

/-- The checks and effect of ACTIVATE. The state is judged before the job (R30): where a hello's REJOIN job has started
at once in LIVE (R39), the entry is RANGING and the answer is WRONG_STATE, as in R73, and not R31's JOB_PENDING (log
entry 29). -/
def activateBody (r : Request) (s : State) : State × Answer :=
  withParams s (parseDrop r.params) fun d =>
    checked s
      [failIf (!s.intakeOpen) .mode, s.claimCheck r.port d, s.stateCheck d [.planned, .bound],
        s.jobCheck d [.planned, .bound], failIf (Config.queueLimit ≤ (s.queue d.branch).length) .queueFull]
      (s.activate r.port d, .just .queued)

/-- ACTIVATE (R30, R31). -/
def execActivate (r : Request) (s : State) : Result := .next (s.takeRequest .activate r (activateBody r))

/-- The entry of a cancelled job, by the job's stage (R45). -/
def Entry.cancelled (e : Entry) (st : Stage) : Entry :=
  match st with
  | .waiting => e.result .cancelled
  | .waitTrace => e.result .cancelled
  | .matching => (e.enter .planned).result .cancelled
  | .range => (e.enter .bound).result .cancelled
  | .admitting => (e.enter .bound).result .cancelled

/-- A cancelled job ends without an event; from ADMIT a WITHDRAW call goes out with the entry's serial (R45). -/
def State.cancelJob (j : Job) (s : State) : State :=
  let e := s.entry j.drop
  let s1 := if j.stage = .admitting then s.sendCall j.drop.branch (.withdraw (e.serial.getD 0)) else s
  s1.endJob j (e.cancelled j.stage) none

/-- The checks and effect of CANCEL. -/
def cancelBody (r : Request) (s : State) : State × Answer :=
  withParams s (parseDrop r.params) fun d =>
    match s.jobOf d with
    | some j => checked s [s.claimCheck r.port d] (s.cancelJob j, .ok)
    | none => checked s [s.claimCheck r.port d] (s, .just .notFound)

/-- CANCEL (R44, R45). -/
def execCancel (r : Request) (s : State) : Result := .next (s.takeRequest .cancel r (cancelBody r))

end Sys2Proof.Machine
end

