-- ==== Sys2Proof/Machine/LaneRequests.lean ====
section
/-! DEFINITION. CLEAR_LANE (R92), CLEAR_UNKNOWN_KINDS (R95) and FORGET_ARRIVAL (R104). -/

namespace Sys2Proof.Machine

/-- The lane record is cleared and the lane opened (R92). A burst in progress that the receiver takes is taken on: that
R92's last sentence on the first burst taken speaks of a reopened lane alone is the model's choice (log entry 32). -/
def Lane.clear (l : Lane) : Lane := { l with flags := 0, count := 0, seen := 0, closed := false }

/-- CLEAR_LANE (R92). -/
def execClearLane (r : Request) (s : State) : Result :=
  .next (s.takeRequest .clearLane r fun t =>
    withParams t (parseBranch r.params) fun b => (t.setLane b (t.lane b).clear, .ok))

/-- The Unknown-Kind Table is emptied (R95). -/
def State.clearUnknown (s : State) : State := { s with unknown := ⟨Vector.replicate 4 none, false⟩ }

/-- CLEAR_UNKNOWN_KINDS (R95). -/
def execClearUnknownKinds (r : Request) (s : State) : Result :=
  .next (s.takeRequest .clearUnknownKinds r fun t =>
    withParams t (parseNone r.params) fun _ => (t.clearUnknown, .ok))

/-- FORGET_ARRIVAL (R104). -/
def execForgetArrival (r : Request) (s : State) : Result :=
  .next (s.takeRequest .forgetArrival r fun t =>
    withParams t (parseSerial r.params) fun n =>
      checked t [failIf (!t.listed n) .notFound] (t.unlist n, .ok))

end Sys2Proof.Machine
end

