-- ==== Sys2Proof/Machine/SettingRequests.lean ====
section
/-! DEFINITION. SET_SETTING (R166, R180), SET_MODE (R49, R146), SET_ALERT_MASK (R183) and RESTART (R172). -/

namespace Sys2Proof.Machine

/-! SET_SETTING -/

/-- The working settings are replaced; a change sets the unsaved flag, and a repeated value changes nothing (R179, R180). -/
def State.putSettings (st : Settings) (s : State) : State :=
  if st = s.settings then s else { s with settings := st, unsaved := true }

/-- A changed setting calls for a supply reset: a changed alarm level that the supply is below in monitor mode RESET, or
monitor mode RESET set while the monitor is LOW (R166). -/
def State.resetCalled (s : State) (st : Settings) : Bool :=
  (st.alarm ≠ s.settings.alarm && st.monitorMode = .reset && decide (s.supply < st.alarm.threshold)) ||
    (st.monitorMode ≠ s.settings.monitorMode && st.monitorMode = .reset && s.monitor = .low)

/-- A new setting is taken up: a changed alarm level that calls for no supply reset is compared with the supply at once, as
part of the request (R166). -/
def State.takeSettings (st : Settings) (s : State) : State :=
  if st.alarm ≠ s.settings.alarm ∧ s.resetCalled st = false then (s.putSettings st).superviseSupply
  else s.putSettings st

/-- The settings a SET_SETTING asks for, or none where a name or a value is bad (R180, R185). -/
def State.settingsAsked (s : State) (r : Request) : Option Settings :=
  (parseSetting r.params).bind fun v => s.settings.put v.setting v.value

/-- The checks and effect of SET_SETTING, but for a supply reset that follows its answer. -/
def setSettingBody (r : Request) (s : State) : State × Answer :=
  withParams s (s.settingsAsked r) fun st => (s.takeSettings st, .ok)

/-- The request is taken, and its change calls for a supply reset (R166). -/
def State.resetFollows (s : State) (r : Request) : Bool :=
  s.takesFrame r.port r.inTime && s.isRunning && RequestKind.setSetting.permits r.port &&
    match s.settingsAsked r with
    | some st => s.resetCalled st
    | none => false

/-- SET_SETTING (R180). A supply reset it calls for is taken after the answer has gone out (R166). -/
def execSetSetting (r : Request) (s : State) : Result :=
  let t := s.takeRequest .setSetting r (setSettingBody r)
  .next (if s.resetFollows r then (t.sendOut r.port).takeReset .supply else t)

/-! SET_MODE -/

/-- Every queue is filled from the rejoin pending flags of its branch (R34). -/
def State.fillAll (s : State) : State := allBranches.foldl (fun t b => t.fill b) s

/-- A changed mode: outside HOLD the mode and the resume mode, in HOLD the resume mode alone (R146). -/
def State.putMode (m : RunMode) (s : State) : State :=
  { s with mode := if s.mode = .hold then .hold else m.mode, resume := m }

/-- A new mode is taken up: LIVE opens intake, so every queue is filled, and outside HOLD the new heads start (R34, R49). -/
def State.changeMode (m : RunMode) (s : State) : State :=
  match m with
  | .survey => s.putMode .survey
  | .live =>
    let s1 := (s.putMode .live).fillAll
    if s.mode = .hold then s1 else s1.proceedAll

/-- The mode in force for SET_MODE: the mode, and in HOLD the resume mode (R146). -/
def State.inForce (s : State) : RunMode :=
  match s.mode with
  | .survey => .survey
  | .live => .live
  | .hold => s.resume

/-- The checks and effect of SET_MODE. -/
def setModeBody (r : Request) (s : State) : State × Answer :=
  withParams s (parseMode r.params) fun m =>
    if m = s.inForce then (s, .ok)
    else checked s [failIf (m = .survey ∧ s.anyJob) .jobPending] (s.changeMode m, .ok)

/-- SET_MODE (R49, R146). -/
def execSetMode (r : Request) (s : State) : Result := .next (s.takeRequest .setMode r (setModeBody r))

/-! SET_ALERT_MASK -/

/-- The port's alert mask is replaced (R183). -/
def State.setMask (p : Port) (m : BitVec 16) (s : State) : State := s.setPort p { s.port p with mask := m }

/-- SET_ALERT_MASK (R183): the answer's data is the new mask. -/
def execSetAlertMask (r : Request) (s : State) : Result :=
  .next (s.takeRequest .setAlertMask r fun t =>
    withParams t (parseEvents r.params) fun m => (t.setMask r.port m, ⟨.ok, beBytes 2 m.toNat⟩))

/-! RESTART -/

/-- A held RESTART keeps its port ANSWERING without a response until the write completes (R172, R176). -/
def State.holdRestart (r : Request) (s : State) : State :=
  { s.setPort r.port { s.port r.port with answer := .answering none } with restart := some r.tag }

/-- A RESTART is carried out: OK goes out on the port, and then the command reset is taken (R172). -/
def State.restartNow (p : Port) (tag : Byte) (s : State) : State :=
  (s.setPort p { s.port p with sent := (s.port p).sent ++ [⟨tag, RequestKind.restart.code, .ok, []⟩] }).takeReset .command

/-- The RESTART passes every check (R172, R185). -/
def State.restartTaken (s : State) (r : Request) : Bool :=
  s.takesFrame r.port r.inTime && s.isRunning && RequestKind.restart.permits r.port && (parseNone r.params).isSome

/-- RESTART (R172): at once while the Store Controller is not writing, and otherwise held until the write completes. -/
def execRestart (r : Request) (s : State) : Result :=
  .next (if s.restartTaken r then
      match s.controller with
      | .writing _ => s.holdRestart r
      | _ => s.restartNow r.port r.tag
    else s.takeRequest .restart r fun t => withParams t (parseNone r.params) fun _ => (t, .ok))

end Sys2Proof.Machine
end

