-- ==== Sys2Proof/Machine/LinkEvents.lean ====
section
/-! DEFINITION. The events of a port's link: a request of unknown kind, the three ways a frame is discarded, and a response
that has gone out (R175 to R177). -/

namespace Sys2Proof.Machine

/-- A discarded frame adds one to the port's bad-frame count, and the port stays READY (R175). -/
def State.countBadFrame (p : Port) (s : State) : State :=
  s.setPort p { s.port p with badFrames := satInc (s.port p).badFrames }

/-- UNKNOWN_REQUEST (R170, R177): the frame is taken, answered and changes nothing. -/
def execUnknownRequest (kind : Byte) (r : Request) (s : State) : Result :=
  .next (if s.takesFrame r.port r.inTime then s.respond r kind (.just .unknownRequest) else s)

/-- BAD_FRAME: a complete frame whose check does not agree (R175). -/
def execBadFrame (f : LostFrame) (s : State) : Result :=
  .next (if s.takesFrame f.port f.inTime then s.countBadFrame f.port else s)

/-- The port ignores further bytes until the link has been idle, or stops doing so (R175). -/
def State.setIgnoring (p : Port) (v : Bool) (s : State) : State := s.setPort p { s.port p with ignoring := v }

/-- FRAME_LENGTH_OVER: the parameter length exceeds 40 (R175). -/
def execFrameLengthOver (f : LostFrame) (s : State) : Result :=
  .next (if s.takesFrame f.port f.inTime then (s.countBadFrame f.port).setIgnoring f.port true else s)

/-- LINK_IDLE_TIMEOUT: the link has been idle for 20 ms. A port that ignores bytes stops doing so; a port that takes the
frame begun discards it (R175). -/
def execLinkIdleTimeout (f : LostFrame) (s : State) : Result :=
  .next (if (s.port f.port).ignoring then s.setIgnoring f.port false
    else if s.takesFrame f.port f.inTime then s.countBadFrame f.port else s)

/-- RESPONSE_SENT: the response frame has gone out and the port is READY (R176). -/
def execResponseSent (p : Port) (s : State) : Result := .next (s.sendOut p)

end Sys2Proof.Machine
end

