-- ==== Sys2Proof/Machine/Reads.lean ====
section
/-! DEFINITION. The thirteen reads. Each answers OK with its read-out; two of them then clear what they read (R168, R182). -/

namespace Sys2Proof.Machine

/-- A read that takes a parameter: out of range or of the wrong length it is answered BAD_PARAMETER, otherwise OK with the
read-out, and reading changes nothing. -/
def readOut {α : Type} (params : Option α) (data : State → α → List Byte) (s : State) : State × Answer :=
  withParams s params fun v => (s, ⟨.ok, data s v⟩)

/-- The events a port reads are cleared in its own copy (R182). -/
def State.clearEvents (p : Port) (s : State) : State := s.setPort p { s.port p with events := 0 }

/-- The reset causes a port reads are cleared in its own copy (R168). -/
def State.clearCauses (p : Port) (s : State) : State :=
  s.setPort p { s.port p with causes := ⟨false, false, false, false⟩ }

/-- READ_IDENTITY (R178). -/
def execReadIdentity (r : Request) (s : State) : Result :=
  .next (s.takeRequest .readIdentity r (readOut (parseNone r.params) fun t _ => t.identityBytes r.port))

/-- READ_ENTRY (R24). -/
def execReadEntry (r : Request) (s : State) : Result :=
  .next (s.takeRequest .readEntry r (readOut (parseDrop r.params) State.entryBytes))

/-- READ_ARRIVALS (R106). -/
def execReadArrivals (r : Request) (s : State) : Result :=
  .next (s.takeRequest .readArrivals r (readOut (parseBranch r.params) State.arrivalsBytes))

/-- READ_QUEUE (R50). -/
def execReadQueue (r : Request) (s : State) : Result :=
  .next (s.takeRequest .readQueue r (readOut (parseBranch r.params) State.queueBytes))

/-- READ_GENERATOR (R121). -/
def execReadGenerator (r : Request) (s : State) : Result :=
  .next (s.takeRequest .readGenerator r (readOut (parseGen r.params) State.genBytes))

/-- READ_LANE (R93). -/
def execReadLane (r : Request) (s : State) : Result :=
  .next (s.takeRequest .readLane r (readOut (parseBranch r.params) State.laneBytes))

/-- READ_UNKNOWN_KINDS (R95). -/
def execReadUnknownKinds (r : Request) (s : State) : Result :=
  .next (s.takeRequest .readUnknownKinds r (readOut (parseNone r.params) fun t _ => t.unknownBytes))

/-- READ_SETTINGS (R179). -/
def execReadSettings (r : Request) (s : State) : Result :=
  .next (s.takeRequest .readSettings r (readOut (parseNone r.params) fun t _ => t.settingsBytes))

/-- READ_SUPPLY (R173). -/
def execReadSupply (r : Request) (s : State) : Result :=
  .next (s.takeRequest .readSupply r (readOut (parseNone r.params) fun t _ => t.supplyBytes))

/-- READ_STORE (R161). -/
def execReadStore (r : Request) (s : State) : Result :=
  .next (s.takeRequest .readStore r (readOut (parseStoreName r.params) State.storeBytes))

/-- READ_CLAIMS (R141). -/
def execReadClaims (r : Request) (s : State) : Result :=
  .next (s.takeRequest .readClaims r (readOut (parseNone r.params) fun t _ => t.claimsBytes))

/-- READ_EVENTS (R182): the flags of the port's copy are returned and then cleared. -/
def execReadEvents (r : Request) (s : State) : Result :=
  .next (s.takeRequest .readEvents r fun t =>
    withParams t (parseNone r.params) fun _ =>
      (t.clearEvents r.port, ⟨.ok, beBytes 2 (t.port r.port).events.toNat⟩))

/-- READ_RESET_CAUSE (R168): the flags of the port's copy are returned and then cleared, during the scan too. -/
def execReadResetCause (r : Request) (s : State) : Result :=
  .next (s.takeRequest .readResetCause r fun t =>
    withParams t (parseNone r.params) fun _ =>
      (t.clearCauses r.port, ⟨.ok, [(t.port r.port).causes.byte]⟩))

end Sys2Proof.Machine
end

