-- ==== Sys2Proof/Machine/StoreRequests.lean ====
section
/-! DEFINITION. The requests that write the Commissioning Store: COMMIT, RELEASE_SLOT, SAVE_SETTINGS (R153 to R156). -/

namespace Sys2Proof.Machine

/-- The requests that write are answered SUPPLY_LOW in HOLD (R145). -/
def State.writeModeCheck (s : State) : Option Status := failIf (s.mode = .hold) .supplyLow

/-- The checks of the record, the supply and the Store Controller, steps 7 to 9 of R153. -/
def State.writeChecks (s : State) (marks : Nat) : List (Option Status) :=
  [failIf (Config.commitMarks ≤ marks) .storeSpent, failIf s.belowCommit .supplyLow,
    failIf (s.controller ≠ .idle) .storeBusy]

/-- ACCEPTED with no data. -/
def Answer.accepted : Answer := .just .accepted

/-- The next sequence number is taken and rises by one (R150). -/
def State.takeSeq (s : State) : State := { s with nextSeq := s.nextSeq + 1 }

/-- The snapshot of a COMMIT (R154): the working offset whatever the offset source, and the next sequence number. -/
def State.snapshot (s : State) (d : Drop) : FilledBody :=
  let e := s.entry d
  ⟨e.plot, e.provider, e.serial.getD 0, e.workingOffset, e.delay.getD 0, s.nextSeq⟩

/-- The checks and effect of COMMIT. -/
def commitBody (r : Request) (s : State) : State × Answer :=
  withParams s (parseDrop r.params) fun d =>
    checked s
      ([s.surveyCheck, s.writeModeCheck, s.claimCheck r.port d, failIf ((s.entry d).state ≠ .active) .wrongState] ++
        s.writeChecks (s.slot d).marks)
      (s.takeSeq.beginWrite (.slot d (.filled (s.snapshot d))), .accepted)

/-- COMMIT (R153, R154). -/
def execCommit (r : Request) (s : State) : Result := .next (s.takeRequest .commit r (commitBody r))

/-- The checks and effect of RELEASE_SLOT: as COMMIT, but for the state of the entry. -/
def releaseSlotBody (r : Request) (s : State) : State × Answer :=
  withParams s (parseDrop r.params) fun d =>
    checked s ([s.surveyCheck, s.writeModeCheck, s.claimCheck r.port d] ++ s.writeChecks (s.slot d).marks)
      (s.takeSeq.beginWrite (.slot d (.empty s.nextSeq)), .accepted)

/-- RELEASE_SLOT (R155). -/
def execReleaseSlot (r : Request) (s : State) : Result := .next (s.takeRequest .releaseSlot r (releaseSlotBody r))

/-- The settings write begins: a given estate identity becomes the working one, the snapshot is taken, and the unsaved flag
clears (R156, R179). -/
def State.saveSettings (estate : Option (BitVec 32)) (s : State) : State :=
  let n := estate.getD s.estateId
  { s with estateId := n, unsaved := false }.beginWrite (.header s.settings n)

/-- The checks and effect of SAVE_SETTINGS. -/
def saveSettingsBody (r : Request) (s : State) : State × Answer :=
  withParams s (parseEstate r.params) fun estate =>
    checked s (s.writeModeCheck :: s.writeChecks s.header.marks) (s.saveSettings estate, .accepted)

/-- SAVE_SETTINGS (R156). -/
def execSaveSettings (r : Request) (s : State) : Result := .next (s.takeRequest .saveSettings r (saveSettingsBody r))

end Sys2Proof.Machine
end

