-- ==== Sys2Proof/Machine/Supervision.lean ====
section
/-! DEFINITION. The supervision ticks: presence (R123, R124, R127), arrivals (R103) and leases (R139). -/

namespace Sys2Proof.Machine

/-! The presence base tick -/

/-- The record's own tick falls on this base tick: its divisor divides the base tick's number (R123). -/
def PresenceRecord.due (tick : Nat) (p : PresenceRecord) : Bool := tick % p.divisor = 0

/-- A counted tick (R124). -/
def PresenceRecord.count (p : PresenceRecord) : PresenceRecord := { p with running := satInc p.running }

/-- An ACTIVE entry whose record is due is counted; a SILENT one is not (R124). -/
def State.countEntry (s : State) (d : Drop) : State :=
  let e := s.entry d
  match e.state, e.presence with
  | .active, some p => if p.due s.baseTick then s.setEntry d { e with presence := some p.count } else s
  | _, _ => s

/-- The running count of an ACTIVE entry has reached its silence limit (R127). -/
def State.limitReached (s : State) (d : Drop) : Bool :=
  match (s.entry d).state, (s.entry d).presence with
  | .active, some p => p.silenceLimit ≤ p.running
  | _, _ => false

/-- The entry becomes SILENT with its record frozen, and SILENCE is raised (R127). -/
def State.silence (d : Drop) (s : State) : State :=
  (s.setEntry d { (s.entry d).enter .silent with
    presence := (s.entry d).presence.map fun p => { p with frozen := true } }).raise .silence

/-- An ACTIVE entry at its limit becomes SILENT (R127). -/
def State.silenceIfDue (s : State) (d : Drop) : State := if s.limitReached d then s.silence d else s

/-- The base tick: the tick is numbered, every due record is counted, and the entries that reach their limits become SILENT,
in ascending drop order (R123, R124, R127). -/
def State.presenceTick (s : State) : State :=
  let s1 := { s with baseTick := (s.baseTick + 1) % 8 }
  allDrops.foldl State.silenceIfDue (allDrops.foldl State.countEntry s1)

/-- PRESENCE_TICK (R123, R124). -/
def execPresenceTick (s : State) : Result := s.whileRunning State.presenceTick

/-- SILENCE_LIMIT_REACHED (R127). -/
def execSilenceLimitReached (d : Drop) (s : State) : Result := s.whileRunning fun s => s.silenceIfDue d

/-! The minute tick -/

/-- The age of an arrival rises by one (R103). -/
def Arrival.tick (a : Arrival) : Arrival := { a with age := satInc a.age }

/-- Every arrival ages, and those at the age limit leave (R103). -/
def ArrivalsList.tick (limit : Nat) (l : ArrivalsList) : ArrivalsList :=
  { l with items := (l.items.map Arrival.tick).filter fun a => a.age < limit }

/-- The arrivals lists at a minute tick, which reads the age limit (R103). -/
def State.tickArrivals (s : State) : State :=
  { s with
    arrivals := Vector.ofFn fun b : Fin 4 => (s.arrivals[b]).tick s.settings.ageLimit
    ageLimitRead := some s.settings.ageLimit }

/-- The minute tick: arrivals age and leave, leases fall, and the claims without lease end (R103, R139). -/
def State.minuteTick (s : State) : State := s.tickArrivals.tickLeases.lapseAll

/-- MINUTE_TICK (R103, R139). -/
def execMinuteTick (s : State) : Result := s.whileRunning State.minuteTick

/-- An arrival has reached the age limit that the last minute tick read (R103). -/
def State.agedOut (s : State) (a : Arrival) : Bool :=
  match s.ageLimitRead with
  | some limit => limit ≤ a.age
  | none => false

/-- The arrival of the serial leaves the branch's list if its age has reached the limit of the last tick (R103, log entry
6). -/
def State.ageOut (b : Branch) (n : Serial) (s : State) : State :=
  s.setArrivals b { s.arrivalsOf b with
    items := (s.arrivalsOf b).items.filter fun a => !(a.serial = n && s.agedOut a) }

/-- ARRIVAL_AGE_OUT (R103). -/
def execArrivalAgeOut (b : Branch) (n : Serial) (s : State) : Result := s.whileRunning fun s => s.ageOut b n

/-- CLAIM_LAPSE (R139): the drop's claim ends if its lease is 0. -/
def execClaimLapse (d : Drop) (s : State) : Result :=
  s.whileRunning fun s =>
    match s.leaseOut d with
    | some f => s.revokeClaim f d
    | none => s

end Sys2Proof.Machine
end

