-- ==== Sys2Proof/Machine/SystemEvents.lean ====
section
/-! DEFINITION. The completion of a store write (R151), the end of the start-up scan (R171), supply levels (R162 to R167)
and the reset pin (R167); and what passes while no command waits. -/

namespace Sys2Proof.Machine

/-- The write in flight completes; a RESTART held for it is then answered and carried out (R151, R172). -/
def State.storeWriteComplete (s : State) : State :=
  match s.controller with
  | .writing w =>
    let t := s.completeWrite w
    match s.restart with
    | some tag => t.restartNow .uplink tag
    | none => t
  | _ => s

/-- STORE_WRITE_COMPLETE (R151, R172). -/
def execStoreWriteComplete (s : State) : Result := s.whileRunning State.storeWriteComplete

/-- STARTUP_SCAN_END (R160, R171). -/
def execStartupScanEnd (s : State) : Result :=
  .next (match s.startup with
    | .scanning headerRead => s.finishScan headerRead
    | _ => s)

/-- The Supply Monitor takes a sensed level 0..255 (R162): below 9.0 V it is a power-on reset (R167); while the part
runs it is compared with the working thresholds; while the part is held it may release a hold. That a further level
below 9.0 V is no new power-on reset while the power-on hold stands is the model's choice (log entry 30). -/
def State.takeLevel (units : Nat) (s : State) : State :=
  let t := { s with supply := min 255 units }
  if t.supply < powerOnThreshold ∧ t.powerOnHold = false then t.takeReset .powerOn
  else match t.startup with
    | .running => t.superviseSupply
    | .held => t.settleHolds
    | .scanning _ => t

/-- SUPPLY_LEVEL (R162 to R167). -/
def execSupplyLevel (units : Nat) (s : State) : Result := .next (s.takeLevel units)

/-- PIN_ASSERT (R167): a pin reset, held while the pin is asserted. -/
def execPinAssert (s : State) : Result := .next (if s.pinHold then s else s.takeReset .pin)

/-- PIN_RELEASE (R167): the pin's hold is released. -/
def execPinRelease (s : State) : Result := .next { s with pinHold := false }.settleHolds

/-! While no command waits -/

/-- One range unit passes: the range counter rises, and at 4095 it stays with its overflow mark set (R60). -/
def RangeCounter.pass (c : RangeCounter) : RangeCounter :=
  if c.count < 4095 then { c with count := c.count + 1 } else { c with overflow := true }

/-- One range unit passes on a branch. -/
def BranchCtl.pass (c : BranchCtl) : BranchCtl := { c with rangeCounter := c.rangeCounter.map RangeCounter.pass }

/-- Time passes with no command waiting (log entry 2): the scan reads the header, or one range unit passes on every
branch. -/
def State.timePasses (s : State) : State :=
  match s.startup with
  | .scanning false => s.readHeader
  | .running => { s with branches := Vector.ofFn fun b : Fin 4 => (s.branches[b]).pass }
  | _ => s

end Sys2Proof.Machine
end

