-- ==== Sys2Proof/Machine/TraceRequests.lean ====
section
/-! DEFINITION. TRACE (R111, R112) and UNTRACE (R113). -/

namespace Sys2Proof.Machine

/-- The observed sequence is a binding code, or that of an attached generator (R111, order 5). -/
def State.patternInUse (s : State) (obs : Steps) : Bool :=
  (allBranches.any fun b => bindingCode b = obs) ||
    allGens.any fun g => (s.gen g).attached.isSome && (s.gen g).observed = obs

/-- The checks of TRACE after the parameters, in the order of R111. -/
def traceChecks (s : State) (p : Port) (v : TraceParams) : List (Option Status) :=
  let obs := observedOf v.pattern v.length
  [s.claimCheck p v.drop, failIf (obs = 0) .badPattern, failIf (s.patternInUse obs) .patternInUse,
    failIf (s.genOn v.drop).isSome .wrongState]

/-- The checks and effect of TRACE: the lowest-numbered free generator is attached to the drop. -/
def traceBody (r : Request) (s : State) : State × Answer :=
  withParams s (parseTrace r.params) fun v =>
    match s.freeGen with
    | some g =>
      checked s (traceChecks s r.port v)
        (s.attach g v.drop (.port r.port) v.pattern v.length, ⟨.ok, [byteOf g.val]⟩)
    | none => checked s (traceChecks s r.port v) (s, .just .noGenerator)

/-- TRACE (R111, R112). -/
def execTrace (r : Request) (s : State) : Result := .next (s.takeRequest .trace r (traceBody r))

/-- The checks and effect of UNTRACE: the drop's generator detaches and is offered to the waiting binding jobs (R115,
R117). -/
def untraceBody (r : Request) (s : State) : State × Answer :=
  withParams s (parseDrop r.params) fun d =>
    match s.genOn d with
    | some g =>
      checked s [s.claimCheck r.port d, failIf (!(s.gen g).ownedBy (.port r.port)) .wrongState]
        (s.detachAndOffer fun x => x.on d, ⟨.ok, [byteOf g.val]⟩)
    | none => checked s [s.claimCheck r.port d] (s, .just .notFound)

/-- UNTRACE (R113). -/
def execUntrace (r : Request) (s : State) : Result := .next (s.takeRequest .untrace r (untraceBody r))

end Sys2Proof.Machine
end

