-- ==== Sys2Proof/Machine/Dispatch.lean ====
section
/-! DEFINITION. One arm per command: each calls the one meaning of that command. -/

namespace Sys2Proof.Machine

/-- The effect of a command on everything but the queue. -/
def exec (i : Instr) (s : State) : Host.Outcome State Fault Refusal :=
  match i with
  | .readIdentity r => Sys2Proof.Machine.execReadIdentity r s
  | .readEntry r => Sys2Proof.Machine.execReadEntry r s
  | .readArrivals r => Sys2Proof.Machine.execReadArrivals r s
  | .readQueue r => Sys2Proof.Machine.execReadQueue r s
  | .readGenerator r => Sys2Proof.Machine.execReadGenerator r s
  | .readLane r => Sys2Proof.Machine.execReadLane r s
  | .readUnknownKinds r => Sys2Proof.Machine.execReadUnknownKinds r s
  | .readSettings r => Sys2Proof.Machine.execReadSettings r s
  | .readSupply r => Sys2Proof.Machine.execReadSupply r s
  | .readStore r => Sys2Proof.Machine.execReadStore r s
  | .readClaims r => Sys2Proof.Machine.execReadClaims r s
  | .readEvents r => Sys2Proof.Machine.execReadEvents r s
  | .readResetCause r => Sys2Proof.Machine.execReadResetCause r s
  | .plan r => Sys2Proof.Machine.execPlan r s
  | .unplan r => Sys2Proof.Machine.execUnplan r s
  | .withdraw r => Sys2Proof.Machine.execWithdraw r s
  | .unblock r => Sys2Proof.Machine.execUnblock r s
  | .setOffset r => Sys2Proof.Machine.execSetOffset r s
  | .clearSilence r => Sys2Proof.Machine.execClearSilence r s
  | .activate r => Sys2Proof.Machine.execActivate r s
  | .cancel r => Sys2Proof.Machine.execCancel r s
  | .trace r => Sys2Proof.Machine.execTrace r s
  | .untrace r => Sys2Proof.Machine.execUntrace r s
  | .claim r => Sys2Proof.Machine.execClaim r s
  | .renew r => Sys2Proof.Machine.execRenew r s
  | .release r => Sys2Proof.Machine.execRelease r s
  | .revoke r => Sys2Proof.Machine.execRevoke r s
  | .commit r => Sys2Proof.Machine.execCommit r s
  | .releaseSlot r => Sys2Proof.Machine.execReleaseSlot r s
  | .saveSettings r => Sys2Proof.Machine.execSaveSettings r s
  | .setSetting r => Sys2Proof.Machine.execSetSetting r s
  | .setMode r => Sys2Proof.Machine.execSetMode r s
  | .setAlertMask r => Sys2Proof.Machine.execSetAlertMask r s
  | .clearLane r => Sys2Proof.Machine.execClearLane r s
  | .clearUnknownKinds r => Sys2Proof.Machine.execClearUnknownKinds r s
  | .forgetArrival r => Sys2Proof.Machine.execForgetArrival r s
  | .restart r => Sys2Proof.Machine.execRestart r s
  | .unknownRequest kind r => Sys2Proof.Machine.execUnknownRequest kind r s
  | .badFrame f => Sys2Proof.Machine.execBadFrame f s
  | .frameLengthOver f => Sys2Proof.Machine.execFrameLengthOver f s
  | .linkIdleTimeout f => Sys2Proof.Machine.execLinkIdleTimeout f s
  | .responseSent p => Sys2Proof.Machine.execResponseSent p s
  | .hello b x => Sys2Proof.Machine.execHello b x s
  | .matchReply b x => Sys2Proof.Machine.execMatchReply b x s
  | .rangeReply b x => Sys2Proof.Machine.execRangeReply b x s
  | .presence b x => Sys2Proof.Machine.execPresence b x s
  | .unknownKindBurst b kind x => Sys2Proof.Machine.execUnknownKindBurst b kind x s
  | .badBurst b kind x => Sys2Proof.Machine.execBadBurst b kind x s
  | .closedLaneBurst b kind x => Sys2Proof.Machine.execClosedLaneBurst b kind x s
  | .openCallDue b => Sys2Proof.Machine.execOpenCallDue b s
  | .openCallEnd b => Sys2Proof.Machine.execOpenCallEnd b s
  | .matchListenEnd b => Sys2Proof.Machine.execMatchListenEnd b s
  | .rangeListenTimeout b => Sys2Proof.Machine.execRangeListenTimeout b s
  | .rangeCounterOverflow b => Sys2Proof.Machine.execRangeCounterOverflow b s
  | .admitWaitExpiry b => Sys2Proof.Machine.execAdmitWaitExpiry b s
  | .frameMark => Sys2Proof.Machine.execFrameMark s
  | .traceStep => Sys2Proof.Machine.execTraceStep s
  | .waitTraceCountDone b => Sys2Proof.Machine.execWaitTraceCountDone b s
  | .presenceTick => Sys2Proof.Machine.execPresenceTick s
  | .silenceLimitReached d => Sys2Proof.Machine.execSilenceLimitReached d s
  | .minuteTick => Sys2Proof.Machine.execMinuteTick s
  | .arrivalAgeOut b serial => Sys2Proof.Machine.execArrivalAgeOut b serial s
  | .claimLapse d => Sys2Proof.Machine.execClaimLapse d s
  | .storeWriteComplete => Sys2Proof.Machine.execStoreWriteComplete s
  | .startupScanEnd => Sys2Proof.Machine.execStartupScanEnd s
  | .supplyLevel units => Sys2Proof.Machine.execSupplyLevel units s
  | .pinAssert => Sys2Proof.Machine.execPinAssert s
  | .pinRelease => Sys2Proof.Machine.execPinRelease s

end Sys2Proof.Machine
end

