-- ==== Sys2Proof/WellFormed.lean ====
section
/-! DEFINITION. Which terms of `Instr` are commands the part can meet. The machine's step is total and does not consult
this check: it says which terms stand for a real frame or burst. -/

namespace Sys2Proof

/-- A complete frame carries at most 40 parameter bytes; a longer one is FRAME_LENGTH_OVER (R175). -/
def Request.wf (r : Request) : Bool := r.params.length ≤ Config.maxParams

/-- The request kinds of the catalogue are coded 0x01 to 0x25; every other kind byte is unknown (12.2). -/
def unknownKindByte (kind : Byte) : Bool := kind = 0 || 0x25 < kind.toNat

/-- The burst kinds HELLO 1, MATCH_REPLY 2, RANGE_REPLY 3, PRESENCE 4; others are unknown (12.4). -/
def unknownBurstKind (kind : BitVec 4) : Bool := kind = 0 || 4 < kind.toNat

/-- The burst comes to the part of it that the command tells of (R77, R83). -/
def Burst.reaches (x : Burst) : Bool :=
  match x.upTo, x.header with
  | .preamble, _ => x.preambleErrors.length = 8
  | .header, h => h.isSome
  | .grace, some h => h.length.toNat + 4 < x.body.length
  | .grace, none => false
  | _, _ => true

/-- A burst is received in order: eight preamble symbols, then the header, then the rest (R77). -/
def Burst.wf (x : Burst) : Bool :=
  x.preambleErrors.length ≤ 8 && (x.preambleErrors.length = 8 || x.header.isNone) &&
    (x.header.isSome || x.body.isEmpty) && x.reaches

/-- The command can be met. -/
def Instr.wf : Instr → Bool
  | .readIdentity r | .readEntry r | .readArrivals r | .readQueue r | .readGenerator r | .readLane r
  | .readUnknownKinds r | .readSettings r | .readSupply r | .readStore r | .readClaims r | .readEvents r
  | .readResetCause r | .plan r | .unplan r | .withdraw r | .unblock r | .setOffset r | .clearSilence r
  | .activate r | .cancel r | .trace r | .untrace r | .claim r | .renew r | .release r | .revoke r
  | .commit r | .releaseSlot r | .saveSettings r | .setSetting r | .setMode r | .setAlertMask r
  | .clearLane r | .clearUnknownKinds r | .forgetArrival r | .restart r => r.wf
  | .unknownRequest kind r => unknownKindByte kind && r.wf
  | .hello _ x => x.kind? = some 1 && x.wf
  | .matchReply _ x => x.kind? = some 2 && x.wf
  | .rangeReply _ x => x.kind? = some 3 && x.wf
  | .presence _ x => x.kind? = some 4 && x.wf
  | .unknownKindBurst _ kind x => x.kind? = some kind && unknownBurstKind kind && x.wf
  | .badBurst _ _ x | .closedLaneBurst _ _ x => x.wf
  | .badFrame _ | .frameLengthOver _ | .linkIdleTimeout _ | .responseSent _ | .openCallDue _ | .openCallEnd _
  | .matchListenEnd _ | .rangeListenTimeout _ | .rangeCounterOverflow _ | .admitWaitExpiry _ | .frameMark
  | .traceStep | .waitTraceCountDone _ | .presenceTick | .silenceLimitReached _ | .minuteTick
  | .arrivalAgeOut _ _ | .claimLapse _ | .storeWriteComplete | .startupScanEnd | .supplyLevel _ | .pinAssert
  | .pinRelease => true

end Sys2Proof
end

