-- ==== Sys2Proof/Safety.lean ====
section
/-! DEFINITION. What holds of every state a run reaches: laws of the queues, the roster, the serials, the generators, the
modes and the store, each as a predicate that `decide` can settle on a concrete state. -/

namespace Sys2Proof.Machine

/-! Words of the statements -/

/-- The part is RUNNING and the port takes the next frame (R175, R176). -/
abbrev State.Open (s : State) (p : Port) : Prop :=
  s.startup = .running ∧ (s.port p).answer = .ready ∧ (s.port p).ignoring = false

/-- The part is RUNNING and the port takes this request: it began in time, and the port takes frames (R174 to R176). -/
abbrev State.Takes (s : State) (r : Request) : Prop := s.Open r.port ∧ r.inTime = true

/-- The claim check passes for a request that changes the drop (R143): a field port holds the drop, and for the Uplink no
field port does. -/
def State.mayAct (s : State) (p : Port) (d : Drop) : Bool :=
  match p.field with
  | some f => (s.claim d).map Claim.holder = some f
  | none => (s.claim d).isNone

/-- The request of known kind that a command carries, with its kind (11.6). -/
def request? : Instr → Option (RequestKind × Request)
  | .readIdentity r => some (.readIdentity, r)
  | .readEntry r => some (.readEntry, r)
  | .readArrivals r => some (.readArrivals, r)
  | .readQueue r => some (.readQueue, r)
  | .readGenerator r => some (.readGenerator, r)
  | .readLane r => some (.readLane, r)
  | .readUnknownKinds r => some (.readUnknownKinds, r)
  | .readSettings r => some (.readSettings, r)
  | .readSupply r => some (.readSupply, r)
  | .readStore r => some (.readStore, r)
  | .readClaims r => some (.readClaims, r)
  | .readEvents r => some (.readEvents, r)
  | .readResetCause r => some (.readResetCause, r)
  | .plan r => some (.plan, r)
  | .unplan r => some (.unplan, r)
  | .withdraw r => some (.withdraw, r)
  | .unblock r => some (.unblock, r)
  | .setOffset r => some (.setOffset, r)
  | .clearSilence r => some (.clearSilence, r)
  | .activate r => some (.activate, r)
  | .cancel r => some (.cancel, r)
  | .trace r => some (.trace, r)
  | .untrace r => some (.untrace, r)
  | .claim r => some (.claim, r)
  | .renew r => some (.renew, r)
  | .release r => some (.release, r)
  | .revoke r => some (.revoke, r)
  | .commit r => some (.commit, r)
  | .releaseSlot r => some (.releaseSlot, r)
  | .saveSettings r => some (.saveSettings, r)
  | .setSetting r => some (.setSetting, r)
  | .setMode r => some (.setMode, r)
  | .setAlertMask r => some (.setAlertMask, r)
  | .clearLane r => some (.clearLane, r)
  | .clearUnknownKinds r => some (.clearUnknownKinds, r)
  | .forgetArrival r => some (.forgetArrival, r)
  | .restart r => some (.restart, r)
  | _ => none

/-- The entry as Table 1-4 leaves it on entry into PLANNED or BLOCKED from another state: no serial (a present one becomes
the last serial), no round trip, delay or presence record, no drift and no rejoin pending (R5, R14). -/
def Entry.unbound (e : Entry) (st : EntryState) : Entry :=
  { e with
    state := st, serial := none, lastSerial := e.serial.or e.lastSerial, roundTrip := none, delay := none,
    presence := none, levelDrift := false, rejoinPending := false }

/-- The entry as Table 1-4 leaves it on entry into BOUND from another state (R14). -/
def Entry.boundAgain (e : Entry) : Entry := { e with state := .bound, presence := none, levelDrift := false }

/-- A burst without an error: a good preamble, a header as sent, the payload and its check, begun in time (R77). -/
def cleanBurst (kind : BitVec 4) (tag : BitVec 3) (serial : Serial) (payload : List Byte) : Burst where
  preambleErrors := List.replicate 8 false
  upTo := .ended
  header := some ⟨.noError, headerSymbols kind tag serial (byteOf payload.length)⟩
  body := payload ++ beBytes 2 (crc16 payload).toNat
  inTime := true

/-- The three payload symbols of HELLO, MATCH_REPLY and PRESENCE: a raw level and an observation (R77, 12.4). -/
def payloadOf (raw : Nat) (obs : Steps) : List Byte := byteOf raw :: beBytes 2 obs.toNat

/-- No reset source is held (R167). -/
abbrev State.NoHolds (s : State) : Prop := s.powerOnHold = false ∧ s.supplyHold = false ∧ s.pinHold = false

/-- The lane takes bursts: the part is RUNNING and the lane is OPEN (R78, R91). -/
abbrev State.OpenLane (s : State) (b : Branch) : Prop := s.startup = .running ∧ (s.lane b).closed = false

/-- The lane takes bursts, and the next one is yet to begin (R78). -/
abbrev State.Listening (s : State) (b : Branch) : Prop := s.OpenLane b ∧ (s.lane b).rx = none

/-! Jobs (R11, R26, R29) -/

/-- The queue laws of R26: at most 6 jobs, one for a drop, each on its own branch, and only the head past WAITING. -/
abbrev State.QueueLaws (s : State) : Prop :=
  ∀ b : Branch, (s.queue b).length ≤ 6 ∧ ((s.queue b).map Job.drop).Nodup ∧
    (∀ j ∈ s.queue b, j.drop.branch = b) ∧ ∀ j ∈ (s.queue b).tail, j.stage = .waiting

/-- An entry state and the drop's job are one of the pairings of R11. -/
def paired (st : EntryState) : Option Job → Bool
  | none => st ≠ .binding && st ≠ .ranging
  | some j =>
    match j.stage, j.kind with
    | .waiting, .activate => st = .planned
    | .waiting, .rejoin => st = .bound
    | .waitTrace, .activate => st = .planned
    | .matching, .activate => st = .binding
    | .range, _ => st = .ranging
    | .admitting, _ => st = .ranging
    | _, _ => false

/-- Every entry is paired with its job (R11). -/
abbrev State.JobsPaired (s : State) : Prop := ∀ d : Drop, paired (s.entry d).state (s.jobOf d) = true

/-- A rejoin pending flag stands only on a BOUND entry without a job (R12, R32), and with intake open only beside a full
queue (R34, note). -/
abbrev State.PendingLaw (s : State) : Prop :=
  ∀ d : Drop, (s.entry d).rejoinPending = true →
    (s.entry d).state = .bound ∧ s.jobOf d = none ∧ (s.intakeOpen = true → (s.queue d.branch).length = 6)

/-- Every queue is empty while job intake is closed (R29) and until the part runs (R28). -/
abbrev State.IntakeLaw (s : State) : Prop :=
  s.intakeOpen = false ∨ s.isRunning = false → ∀ b : Branch, s.queue b = []

/-- The laws of the jobs together. -/
abbrev State.JobInv (s : State) : Prop := s.QueueLaws ∧ s.JobsPaired ∧ s.PendingLaw ∧ s.IntakeLaw

/-! Serials (R4, R96) and presence records (R10) -/

/-- The states in which an entry has a serial (R4). -/
def EntryState.bearsSerial : EntryState → Bool
  | .ranging | .bound | .active | .silent => true
  | _ => false

/-- All arrivals of the four lists. -/
def State.allArrivals (s : State) : List Arrival := allBranches.flatMap fun b => (s.arrivalsOf b).items

/-- A serial stands in an entry exactly in the states that bear one, in one entry at most, or in one place of the arrivals
lists, which hold at most 8 and are empty until the part runs (R4, R96). -/
abbrev State.SerialInv (s : State) : Prop :=
  (∀ d : Drop, (s.entry d).serial.isSome = (s.entry d).state.bearsSerial) ∧
  (∀ d e : Drop, d ≠ e → (s.entry d).serial.isSome = true → (s.entry d).serial ≠ (s.entry e).serial) ∧
  (∀ b : Branch, (s.arrivalsOf b).items.length ≤ 8) ∧
  (s.allArrivals.map Arrival.serial).Nodup ∧
  (∀ a ∈ s.allArrivals, ∀ d : Drop, (s.entry d).serial ≠ some a.serial) ∧
  (s.isRunning = false → s.allArrivals = [])

/-- An entry state and a presence record that may stand together: the record on ACTIVE and SILENT entries, frozen on SILENT
ones (R10, R122). -/
def presenceFits (st : EntryState) : Option PresenceRecord → Bool
  | some p => (st = .active && !p.frozen) || (st = .silent && p.frozen)
  | none => st ≠ .active && st ≠ .silent

/-- A presence record stands exactly on ACTIVE and SILENT entries, frozen exactly on SILENT ones (R10, R122). -/
abbrev State.PresenceInv (s : State) : Prop :=
  ∀ d : Drop, presenceFits (s.entry d).state (s.entry d).presence = true

/-! Generators (R107, R111, R116) -/

/-- What an attached generator plays and for whom: a port's sequence is lit somewhere and is no binding code; a binding's
generator plays its branch's code on the drop of the branch's head job, which counts frames or matches. -/
def State.playsRight (s : State) (g : Generator) : Bool :=
  match g.attached with
  | none => true
  | some (_, .port _) => g.observed ≠ 0 && allBranches.all fun b => g.observed ≠ bindingCode b
  | some (d, .binding b) =>
    g.pattern = bindingCode b && g.length = 12 &&
    match (s.queue b).head? with
    | some j => j.drop = d && ((j.stage = .waitTrace && (s.branch b).frameMarks.isSome) || j.stage = .matching)
    | none => false

/-- No two attached generators share a drop or an observed sequence, and each plays what it may (R107, R111, R118). -/
abbrev State.GenInv (s : State) : Prop :=
  (∀ g h : Gen, g ≠ h → (s.gen g).attached.isSome = true → (s.gen h).attached.isSome = true →
    (s.gen g).attached.map Prod.fst ≠ (s.gen h).attached.map Prod.fst ∧ (s.gen g).observed ≠ (s.gen h).observed) ∧
  ∀ g : Gen, s.playsRight (s.gen g) = true

/-! Modes, start-up and store -/

/-- The frame timer runs, inside its twelve steps, exactly while the part does (R109). -/
def frameFits (running : Bool) : Option FrameTimer → Bool
  | some f => running && 1 ≤ f.step && f.step ≤ 12
  | none => !running

/-- The mode, the resume mode and the monitor state move together (R144, 10.2), the mode is SURVEY until the part runs, the
frame timer runs with the part (R109), and no reset source is held outside HELD (R167). -/
abbrev State.ModeInv (s : State) : Prop :=
  (s.mode = .hold ↔ s.monitor = .low) ∧ (s.mode ≠ .hold → s.resume.mode = s.mode) ∧
  (s.isRunning = false → s.mode = .survey) ∧ frameFits s.isRunning s.frame = true ∧
  (s.startup ≠ .held → s.NoHolds)

/-- No store record has more than four commit marks (R149). -/
abbrev State.MarksInv (s : State) : Prop := (∀ d : Drop, (s.slot d).marks ≤ 4) ∧ s.header.marks ≤ 4

/-- A write is in flight (R151). -/
def Controller.isWriting : Controller → Bool
  | .writing _ => true
  | _ => false

/-- A held RESTART waits for a write in flight, and the Uplink waits for its answer (R172, R176). -/
abbrev State.RestartInv (s : State) : Prop :=
  s.restart.isSome = true →
    s.isRunning = true ∧ (s.port .uplink).answer = .answering none ∧ s.controller.isWriting = true

/-- The Claim Table's limit: a field port holds at most 8 drops (R133). -/
abbrev State.ClaimInv (s : State) : Prop := s.claimCount .field1 ≤ 8 ∧ s.claimCount .field2 ≤ 8

end Sys2Proof.Machine
end

