-- ==== Sys2Proof/Certificates/Slice0/Obligations.lean ====
section
/-! DEFINITION. The statements for the provers, each a proposition about the model; OBLIGATIONS.json says in words what each
states and which rule of the spec it comes from. -/

open Sys2Proof Sys2Proof.Machine

/-! ## Steps -/

/-- A step takes the command at the front of the queue and runs it on the state with the queue's rest. -/
def Obligations.StepRunsFrontCommand : Prop :=
  ∀ (c : Instr) (cs : List Instr) (s : State), s.pending = c :: cs → step s = exec c { s with pending := cs }

/-- With no command waiting, one range unit passes in RUNNING, the scan reads the header once, and HELD idles: that
these happen at a step with an empty queue is the model's choice (log entry 2). The reading of the header sets the
working settings and the estate identity from a good header, and the factory settings and identity 0 otherwise; the
image is NEVER, GOOD or SUSPECT, and SUSPECT raises STORE_SUSPECT (R157). After a supply reset the working alarm level
and monitor mode stand, and the unsaved flag says whether they differ from what the header or the factory gave (R169,
R179). -/
def Obligations.IdleStepLetsTimePass : Prop :=
  ∀ s : State, s.pending = [] → ∃ t, step s = .next t ∧ t.pending = [] ∧
    (s.startup = .held ∨ s.startup = .scanning true → t = s) ∧
    (s.startup = .scanning false → ∃ img given n,
      (s.header.marks = 0 → img = .never ∧ given = .factory ∧ n = 0) ∧
      (s.header.marks ≠ 0 →
        (∀ st e, s.header.headerBody = some (st, e) → img = .good ∧ given = st ∧ n = e) ∧
        (s.header.headerBody = none → img = .suspect ∧ given = .factory ∧ n = 0)) ∧
      let kept : Settings := { given with alarm := s.settings.alarm, monitorMode := s.settings.monitorMode }
      let st := if s.keepThresholds = true then kept else given
      let u : State := { s with
        startup := .scanning true, settings := st, estateId := n, headerImage := img, unsaved := decide (st ≠ given) }
      t = if img = .suspect then u.raise .storeSuspect else u) ∧
    (s.startup = .running → t = { s with branches := t.branches } ∧
      ∀ b, t.branch b = { s.branch b with
        rangeCounter := (s.branch b).rangeCounter.map fun c =>
          if c.count < 4095 then ⟨c.count + 1, c.overflow⟩ else ⟨c.count, true⟩ })

/-- Every command answers a next state, whatever the state it meets, and none touches the command queue. That an event
which cannot occur in the state it meets changes nothing, and is no stop, is the model's choice (log entry 7). -/
def Obligations.EveryCommandAnswersANextState : Prop :=
  ∀ (c : Instr) (s : State), ∃ t, exec c s = .next t ∧ t.pending = s.pending

/-! ## The Port Unit -/

/-- The eleven reads that change nothing answer OK with their read-outs (11.6, 12.3). READ_IDENTITY is answered so
during the scan too, and with a parameter BAD_PARAMETER even then (R170, R178, R185). -/
def Obligations.ReadsAnswerAndChangeNothing : Prop :=
  (∀ (s : State) (r : Request), s.startup ≠ .held → (s.port r.port).answer = .ready →
    (s.port r.port).ignoring = false → r.inTime = true →
    (r.params = [] → exec (.readIdentity r) s = .next (s.respond r 0x01 ⟨.ok, s.identityBytes r.port⟩)) ∧
    (r.params ≠ [] → exec (.readIdentity r) s = .next (s.respond r 0x01 ⟨.badParameter, []⟩))) ∧
  ∀ (s : State) (r : Request), s.Takes r →
    (r.params = [] →
      exec (.readUnknownKinds r) s = .next (s.respond r 0x07 ⟨.ok, s.unknownBytes⟩) ∧
      exec (.readSettings r) s = .next (s.respond r 0x08 ⟨.ok, s.settingsBytes⟩) ∧
      exec (.readSupply r) s = .next (s.respond r 0x09 ⟨.ok, s.supplyBytes⟩) ∧
      exec (.readClaims r) s = .next (s.respond r 0x0B ⟨.ok, s.claimsBytes⟩)) ∧
    (∀ d : Drop, r.params = [byteOf d.val] →
      exec (.readEntry r) s = .next (s.respond r 0x02 ⟨.ok, s.entryBytes d⟩)) ∧
    (∀ b : Branch, r.params = [byteOf b.val] →
      exec (.readArrivals r) s = .next (s.respond r 0x03 ⟨.ok, s.arrivalsBytes b⟩) ∧
      exec (.readQueue r) s = .next (s.respond r 0x04 ⟨.ok, s.queueBytes b⟩) ∧
      exec (.readLane r) s = .next (s.respond r 0x06 ⟨.ok, s.laneBytes b⟩)) ∧
    (∀ g : Gen, r.params = [byteOf g.val] →
      exec (.readGenerator r) s = .next (s.respond r 0x05 ⟨.ok, s.genBytes g⟩)) ∧
    (r.port = .uplink →
      (∀ d : Drop, r.params = [byteOf d.val] →
        exec (.readStore r) s = .next (s.respond r 0x0A ⟨.ok, s.storeBytes (.slot d)⟩)) ∧
      (r.params = [0xFF] → exec (.readStore r) s = .next (s.respond r 0x0A ⟨.ok, s.storeBytes .header⟩)))

/-- The length of every read-out, and the value it holds at each of its bytes: the entry, arrivals, queue, generator,
lane, claims, Unknown-Kind, settings, supply, store and identity read-outs (12.3). The codes of every named value in
them and of the statuses, the bits of the events, fault kinds, provider tags and reset causes, and the binding codes
(R52, R184). That job kinds and the states of the lane, the monitor and the store are coded by their position too, and
that a lone flag is bit 0 of its byte, is read from the spec (log entry 31). -/
def Obligations.ReadOutLayout : Prop :=
  (([.vacant, .planned, .binding, .ranging, .bound, .active, .silent, .blocked] : List EntryState).map EntryState.code =
      [0, 1, 2, 3, 4, 5, 6, 7] ∧
    ([.none, .done, .noAnswer, .crossed, .providerOff, .providerMismatch, .levelLow, .levelHigh, .rangeFar, .noPresence,
      .cancelled, .moved, .held] : List LastResult).map LastResult.code = [0, 1, 2, 3, 4, 5, 6, 7, 8, 9, 10, 11, 12] ∧
    ([none, some .waiting, some .waitTrace, some .matching, some .range, some .admitting] : List (Option Stage)).map
      jobCode = [0, 1, 2, 3, 4, 5] ∧
    ([.waiting, .waitTrace, .matching, .range, .admitting] : List Stage).map Stage.code = [0, 1, 2, 3, 4] ∧
    ([.none, .matches, .differs, .suspect] : List StoreStatus).map StoreStatus.code = [0, 1, 2, 3] ∧
    ([.none, .openCall, .matchListen, .rangeListen] : List Window).map Window.code = [0, 1, 2, 3] ∧
    ([.port .uplink, .port .field1, .port .field2, .roster] : List Requester).map Requester.code = [0, 1, 2, 3] ∧
    (∀ (n : Nat) (f : FilledBody),
      ([.never, .empty n, .filled f, .torn] : List SlotImage).map SlotImage.code = [0, 1, 2, 3]) ∧
    ([.never, .good, .suspect] : List HeaderImage).map HeaderImage.code = [0, 1, 2] ∧
    ([.ok, .queued, .accepted, .alreadyHeld, .notPermitted, .mode, .claimed, .notClaimed, .claimLimit, .lapsed,
      .wrongState, .jobPending, .queueFull, .noGenerator, .patternInUse, .badPattern, .badParameter, .storeBusy,
      .storeSpent, .supplyLow, .starting, .notFound, .unknownRequest] : List Status).map Status.code = List.range 23 ∧
    ([.uplink, .field1, .field2] : List Port).map portCode = [0, 1, 2] ∧
    ([.survey, .live, .hold] : List Mode).map Mode.code = [0, 1, 2] ∧
    ([.working, .store] : List OffsetSource).map OffsetSource.code = [0, 1] ∧
    ([.activate, .rejoin] : List JobKind).map JobKind.code = [0, 1] ∧
    ([.ok, .low] : List MonitorState).map MonitorState.code = [0, 1] ∧
    (∀ p : Port, (Owner.port p).code = portCode p) ∧ (∀ b : Branch, (Owner.binding b).code = 4 + b.val) ∧
    ([.jobDone, .jobFailed, .arrival, .arrivalsFull, .silence, .levelDrift, .moved, .laneFault, .unknownKind,
      .rejoinWaiting, .storeDone, .storeSuspect, .supplyLow, .supplyOk, .started, .claimEnded] : List Event).map
      Event.bit = [1, 2, 4, 8, 0x10, 0x20, 0x40, 0x80, 0x100, 0x200, 0x400, 0x800, 0x1000, 0x2000, 0x4000, 0x8000] ∧
    ([.preambleFixed, .preambleLost, .headerFixed, .headerBad, .checkBad, .short, .overrun, .stray, .unknownKind,
      .providerOffSeen, .unboundPresence, .unheard, .doubleReply] : List FaultKind).map FaultKind.bit =
      [1, 2, 4, 8, 0x10, 0x20, 0x40, 0x80, 0x100, 0x200, 0x400, 0x800, 0x1000] ∧
    (∀ t : BitVec 3, (tagBit t).toNat = 2 ^ t.toNat) ∧
    (∀ c : ResetCauses, c.byte.toNat = c.powerOn.toNat + 2 * c.supply.toNat + 4 * c.pin.toNat + 8 * c.command.toNat) ∧
    settingOrder = [.openPeriod, .stepWidth, .acceptLow, .acceptHigh, .span, .divisor, .silenceLimit, .lease, .ageLimit,
      .providers, .record, .recovery, .tolerance, .alarm, .monitorMode, .startMode] ∧
    (∀ st : Settings,
      st.value .recovery = (if st.recovery = .auto then 0 else 1) ∧
      st.value .tolerance = (if st.tolerance = .strict then 0 else 1) ∧
      st.value .alarm = (match st.alarm with | .a1 => 0 | .a2 => 1 | .a3 => 2) ∧
      st.value .monitorMode = (if st.monitorMode = .alarm then 0 else 1) ∧
      st.value .startMode = (if st.startMode = .survey then 0 else 1) ∧
      st.value .openPeriod = st.openPeriod ∧ st.value .stepWidth = st.stepWidth ∧ st.value .acceptLow = st.acceptLow ∧
      st.value .acceptHigh = st.acceptHigh ∧ st.value .span = st.span ∧ st.value .divisor = st.divisor ∧
      st.value .silenceLimit = st.silenceLimit ∧ st.value .lease = st.lease ∧ st.value .ageLimit = st.ageLimit ∧
      st.value .providers = st.providers.toNat ∧ st.value .record = st.record.toNat) ∧
    ([0, 1, 2, 3] : List Branch).map bindingCode = [0xECA, 0xE6C, 0xE99, 0xE35]) ∧
  (∀ (s : State) (d : Drop), let x := s.entryBytes d
    let e := s.entry d
    let p := e.presence.getD ⟨0, 0, 0, 0, false, false⟩
    x.length = 37 ∧ fieldAt x 0 1 = d.val ∧ fieldAt x 1 1 = d.val / 16 ∧ fieldAt x 2 1 = e.state.code ∧
    (∃ f : Byte, x[3]? = some f ∧ f.getLsbD 0 = e.serial.isSome ∧ f.getLsbD 1 = e.lastSerial.isSome ∧
      f.getLsbD 2 = e.lastLevel.isSome ∧ f.getLsbD 3 = e.roundTrip.isSome ∧ f.getLsbD 4 = e.delay.isSome ∧
      f.getLsbD 5 = e.presence.isSome ∧ f.getLsbD 6 = (s.claim d).isSome ∧ f.getLsbD 7 = false) ∧
    fieldAt x 4 2 = e.plot % 65536 ∧ fieldAt x 6 1 = e.provider % 256 ∧ fieldAt x 7 6 = (e.serial.getD 0).toNat ∧
    fieldAt x 13 6 = (e.lastSerial.getD 0).toNat ∧ fieldAt x 19 1 = e.workingOffset % 256 ∧
    fieldAt x 20 1 = e.offsetSource.code ∧ fieldAt x 21 1 = e.lastLevel.getD 0 % 256 ∧
    fieldAt x 22 2 = e.roundTrip.getD 0 % 65536 ∧ fieldAt x 24 2 = e.delay.getD 0 % 65536 ∧
    (∃ f : Byte, x[26]? = some f ∧ f.getLsbD 0 = e.levelDrift ∧ f.getLsbD 1 = e.rejoinPending ∧
      f.getLsbD 2 = p.frozen ∧ f.getLsbD 3 = p.heardWhileSilent ∧ f.toNat < 16) ∧
    fieldAt x 27 1 = jobCode (s.jobField d) ∧ fieldAt x 28 1 = e.lastResult.code ∧
    fieldAt x 29 1 = (s.storeStatus d).code ∧ fieldAt x 30 1 = (s.slot d).marks % 256 ∧
    fieldAt x 31 1 = p.running % 256 ∧ fieldAt x 32 1 = p.lastInterval % 256 ∧ fieldAt x 33 1 = p.divisor % 256 ∧
    fieldAt x 34 1 = p.silenceLimit % 256 ∧
    (s.claim d = none → fieldAt x 35 1 = 0 ∧ fieldAt x 36 1 = 0) ∧
    ∀ c, s.claim d = some c → (c.holder = .field1 → fieldAt x 35 1 = 1) ∧ (c.holder = .field2 → fieldAt x 35 1 = 2) ∧
      fieldAt x 36 1 = c.lease % 256) ∧
  (∀ (s : State) (b : Branch), let x := s.arrivalsBytes b
    let l := s.arrivalsOf b
    x.length = 3 + 13 * l.items.length ∧ fieldAt x 0 1 = b.val ∧ fieldAt x 1 1 = l.missed % 256 ∧
    fieldAt x 2 1 = l.items.length % 256 ∧
    ∀ i a, l.items[i]? = some a → let o := 3 + 13 * i
      fieldAt x o 6 = a.serial.toNat ∧ fieldAt x (o + 6) 1 = a.tag.toNat ∧ fieldAt x (o + 7) 1 = a.rawLevel % 256 ∧
      fieldAt x (o + 8) 2 = (a.observation.getD 0).toNat ∧ fieldAt x (o + 10) 1 = a.age % 256 ∧
      fieldAt x (o + 11) 1 = a.hellos % 256 ∧ fieldAt x (o + 12) 1 = a.providerOff.toNat) ∧
  (∀ (s : State) (b : Branch), let x := s.queueBytes b
    let n := (s.queue b).length
    x.length = 6 + 5 * n ∧ fieldAt x 0 1 = b.val ∧ fieldAt x 1 1 = (s.branch b).window.code ∧
    fieldAt x 2 1 = (s.branch b).openDue.toNat ∧ fieldAt x 3 1 = n % 256 ∧
    (∀ i j, (s.queue b)[i]? = some j → let o := 4 + 5 * i
      fieldAt x o 1 = j.drop.val ∧ fieldAt x (o + 1) 1 = j.kind.code ∧ fieldAt x (o + 2) 1 = j.stage.code ∧
      fieldAt x (o + 3) 1 = j.requester.code ∧ fieldAt x (o + 4) 1 = j.attempts % 256) ∧
    ∀ d : Drop, d.branch = b → (fieldAt x (4 + 5 * n) 2).testBit (d.val % 16) = (s.entry d).rejoinPending) ∧
  (∀ (s : State) (g : Gen), let x := s.genBytes g
    let y := s.gen g
    x.length = 20 ∧ fieldAt x 0 1 = g.val ∧
    fieldAt x 1 1 = y.attached.isSome.toNat + 2 * y.echo.first.isSome.toNat ∧
    (y.attached = none → fieldAt x 2 1 = 0 ∧ fieldAt x 3 1 = 0) ∧
    (∀ d o, y.attached = some (d, o) → fieldAt x 2 1 = d.val ∧ fieldAt x 3 1 = o.code) ∧
    fieldAt x 4 2 = y.pattern.toNat ∧ fieldAt x 6 1 = y.length % 256 ∧ fieldAt x 7 2 = y.observed.toNat ∧
    fieldAt x 9 1 = y.echo.count % 256 ∧
    (y.echo.first = none → fieldAt x 10 6 = 0 ∧ fieldAt x 16 1 = 0) ∧
    (∀ n b, y.echo.first = some (n, b) → fieldAt x 10 6 = n.toNat ∧ fieldAt x 16 1 = b.val) ∧
    fieldAt x 17 1 = y.echo.wrongBranch.toNat + 2 * y.echo.boundElsewhere.toNat + 4 * y.echo.multiple.toNat ∧
    (∀ b : Branch, (fieldAt x 18 1).testBit b.val = (s.bindingWait b).isSome ∧
      (fieldAt x 18 1).testBit (4 + b.val) = decide (s.bindingWait b = some .eligible)) ∧
    fieldAt x 19 1 = s.lastServed.val) ∧
  (∀ (s : State) (b : Branch), let x := s.laneBytes b
    let l := s.lane b
    x.length = 7 ∧ fieldAt x 0 1 = b.val ∧ fieldAt x 1 1 = l.closed.toNat ∧ fieldAt x 2 2 = l.flags.toNat ∧
    fieldAt x 4 1 = l.count % 256 ∧ fieldAt x 5 1 = l.seen.toNat ∧ fieldAt x 6 1 = (s.arrivalsOf b).missed % 256) ∧
  (∀ s : State, let x := s.claimsBytes
    let held := allDrops.filter fun d => (s.claim d).isSome
    let n := held.length
    x.length = 19 + 3 * n ∧ fieldAt x 0 1 = n ∧
    (∀ i d c, held[i]? = some d → s.claim d = some c → fieldAt x (1 + 3 * i) 1 = d.val ∧
      fieldAt x (2 + 3 * i) 1 = (if c.holder = .field1 then 1 else 2) ∧ fieldAt x (3 + 3 * i) 1 = c.lease % 256) ∧
    fieldAt x (1 + 3 * n) 1 = s.claimCount .field1 ∧ fieldAt x (2 + 3 * n) 1 = s.claimCount .field2 ∧
    ∀ d : Drop, (fieldAt x (3 + 3 * n + d.val / 8) 1).testBit (d.val % 8) = s.lapsed .field1 d ∧
      (fieldAt x (11 + 3 * n + d.val / 8) 1).testBit (d.val % 8) = s.lapsed .field2 d) ∧
  (∀ s : State, s.unknownBytes.length = 5 ∧
    (∀ i : Fin 4, (s.unknown.entries[i] = none → fieldAt s.unknownBytes i.val 1 = 0) ∧
      ∀ b k, s.unknown.entries[i] = some (b, k) →
        fieldAt s.unknownBytes i.val 1 = 128 + 16 * b.val + k.toNat) ∧
    fieldAt s.unknownBytes 4 1 = s.unknown.overflow.toNat) ∧
  (∀ s : State, s.settingsBytes.length = 37 ∧
    (∀ (i : Fin 16) (k : Setting), settingOrder[i]? = some k →
      fieldAt s.settingsBytes (2 * i.val) 2 = s.settings.value k % 65536) ∧
    fieldAt s.settingsBytes 32 4 = s.estateId.toNat ∧ fieldAt s.settingsBytes 36 1 = s.unsaved.toNat) ∧
  (∀ s : State, let x := s.supplyBytes
    let a := s.settings.alarm
    x.length = 10 ∧ fieldAt x 0 1 = s.supply % 256 ∧ fieldAt x 1 1 = s.settings.value .alarm ∧
    fieldAt x 2 1 = a.threshold ∧ fieldAt x 3 1 = a.threshold + 2 ∧ fieldAt x 4 1 = a.threshold + 6 ∧
    fieldAt x 5 1 = s.settings.value .monitorMode ∧ fieldAt x 6 1 = s.monitor.code ∧ fieldAt x 7 1 = s.mode.code ∧
    fieldAt x 8 1 = s.resume.mode.code ∧ fieldAt x 9 1 = s.controller.isWriting.toNat) ∧
  (∀ (s : State) (n : StoreName), let x := s.storeBytes n
    let (code, marks, img) := match n with
      | .slot d => (d.val, (s.slot d).marks, (s.image d).code)
      | .header => (0xFF, s.header.marks, s.headerImage.code)
    fieldAt x 0 1 = code ∧ fieldAt x 1 1 = marks % 256 ∧ fieldAt x 2 1 = img ∧
    (s.controller.isWriting = false → fieldAt x 3 1 = 0 ∧ fieldAt x 4 1 = 0) ∧
    (∀ d body, s.controller = .writing (.slot d body) → fieldAt x 3 1 = 1 ∧ fieldAt x 4 1 = d.val) ∧
    (∀ st e, s.controller = .writing (.header st e) → fieldAt x 3 1 = 2 ∧ fieldAt x 4 1 = 0) ∧
    fieldAt x 5 2 = s.nextSeq % 65536 ∧
    (n = .header → x.length = 12 ∧
      (∀ st e, s.headerImage = .good → s.header.headerBody = some (st, e) → fieldAt x 7 4 = e.toNat ∧
        fieldAt x 11 1 = st.value .startMode) ∧
      (s.headerImage ≠ .good → fieldAt x 7 4 = 0 ∧ fieldAt x 11 1 = 0)) ∧
    ∀ d, n = .slot d → x.length = 22 ∧
      (∀ b, s.image d = .filled b → fieldAt x 7 2 = b.plot % 65536 ∧ fieldAt x 9 1 = b.provider % 256 ∧
        fieldAt x 10 6 = b.serial.toNat ∧ fieldAt x 16 1 = b.offset % 256 ∧ fieldAt x 17 2 = b.delay % 65536 ∧
        fieldAt x 19 3 = b.seq % 2 ^ 24) ∧
      (∀ q, s.image d = .empty q → fieldAt x 7 12 = 0 ∧ fieldAt x 19 3 = q % 2 ^ 24) ∧
      (s.image d = .never ∨ s.image d = .torn → fieldAt x 7 15 = 0)) ∧
  ∀ (s : State) (p : Port), let x := s.identityBytes p
    x.length = 9 ∧ fieldAt x 0 2 = 0x0264 ∧ fieldAt x 2 1 = portCode p ∧
    fieldAt x 3 1 = (if s.startup = .running then 1 else 0) ∧ fieldAt x 4 4 = s.estateId.toNat ∧
    fieldAt x 8 1 = (s.port p).badFrames % 256

/-- READ_EVENTS returns the port's copy and clears it; the other copies stand, and what is raised later is kept
(R182). READ_RESET_CAUSE returns the port's four flags and clears them, in SCANNING as in RUNNING (R168). -/
def Obligations.ReadAndClearOwnCopy : Prop :=
  (∀ (s : State) (r : Request), r.params = [] →
    (∀ h, s.startup = .scanning h → (s.port r.port).answer = .ready → (s.port r.port).ignoring = false →
      r.inTime = true → exec (.readEvents r) s = .next (s.respond r 0x0C ⟨.starting, []⟩)) ∧
    (s.Takes r → ∃ t, exec (.readEvents r) s = .next t ∧
      t = { s with ports := t.ports } ∧
      t.port r.port = { s.port r.port with
        events := 0
        answer := .answering (some ⟨r.tag, 0x0C, .ok, beBytes 2 (s.port r.port).events.toNat⟩) } ∧
      (∀ p, p ≠ r.port → t.port p = s.port p) ∧
      t.alertLine r.port = false ∧
      ∀ e : Event, ((t.raise e).port r.port).events = e.bit ∧
        (t.raise e).alertLine r.port = decide (e.bit &&& (s.port r.port).mask ≠ 0))) ∧
  (∀ (s : State) (r : Request), r.params = [] → s.startup ≠ .held → (s.port r.port).answer = .ready →
    (s.port r.port).ignoring = false → r.inTime = true →
    exec (.readResetCause r) s = .next (s.setPort r.port { s.port r.port with
      causes := ⟨false, false, false, false⟩
      answer := .answering (some ⟨r.tag, 0x0D, .ok, [(s.port r.port).causes.byte]⟩) }))

/-- During the scan every request but READ_IDENTITY and READ_RESET_CAUSE is answered STARTING and changes nothing
(R170). A frame that arrives while the part is HELD, while its port is ANSWERING, or while the port ignores bytes, or
whose start marker came before the last reset or while its port was ANSWERING, is lost and changes nothing (R170, R174
to R176). A request from a port that the role table does not name is answered NOT_PERMITTED and changes nothing (R142).
A request whose parameter length is not the one its kind requires is answered BAD_PARAMETER in RUNNING from a port the
role table names, and so is one whose drop, branch, generator, mode or store record lies outside its range; it changes
nothing (R177, R185). -/
def Obligations.PortUnitGatesEveryRequest : Prop :=
  (∀ (c : Instr) (k : RequestKind) (r : Request) (s : State) (h : Bool), request? c = some (k, r) →
    s.startup = .scanning h → (s.port r.port).answer = .ready → (s.port r.port).ignoring = false → r.inTime = true →
    k ≠ .readIdentity → k ≠ .readResetCause →
    exec c s = .next (s.respond r k.code ⟨.starting, []⟩)) ∧
  (∀ (c : Instr) (k : RequestKind) (r : Request) (s : State), request? c = some (k, r) →
    (s.startup = .held ∨ (s.port r.port).answer ≠ .ready ∨ (s.port r.port).ignoring = true ∨ r.inTime = false) →
    exec c s = .next s) ∧
  (∀ (c : Instr) (k : RequestKind) (r : Request) (s : State), request? c = some (k, r) → s.Takes r →
    ((r.port ≠ .uplink ∧ k ∈ [RequestKind.readStore, .plan, .unplan, .withdraw, .unblock, .setOffset, .revoke, .commit,
        .releaseSlot, .saveSettings, .setSetting, .setMode, .clearLane, .clearUnknownKinds, .forgetArrival, .restart]) ∨
      (r.port = .uplink ∧ k ∈ [RequestKind.claim, .renew, .release])) →
    exec c s = .next (s.respond r k.code ⟨.notPermitted, []⟩)) ∧
  (∀ (c : Instr) (k : RequestKind) (r : Request) (s : State), request? c = some (k, r) → s.Takes r →
    k.permits r.port = true →
    r.params.length ∉ (match k with
      | .readIdentity | .readUnknownKinds | .readSettings | .readSupply | .readClaims | .readEvents | .readResetCause
      | .clearUnknownKinds | .restart => [0]
      | .plan | .trace => [4]
      | .setOffset | .setSetting => [3]
      | .setAlertMask => [2]
      | .forgetArrival => [6]
      | .saveSettings => [0, 4]
      | _ => [1]) →
    exec c s = .next (s.respond r k.code ⟨.badParameter, []⟩)) ∧
  (∀ (c : Instr) (k : RequestKind) (r : Request) (s : State) (n : Byte), request? c = some (k, r) → s.Takes r →
    k.permits r.port = true → r.params = [n] →
    ((k ∈ [RequestKind.readEntry, .unplan, .withdraw, .unblock, .clearSilence, .activate, .cancel, .untrace, .claim,
        .renew, .release, .revoke, .commit, .releaseSlot] ∧ 64 ≤ n.toNat) ∨
      (k ∈ [RequestKind.readArrivals, .readQueue, .readLane, .clearLane] ∧ 4 ≤ n.toNat) ∨
      (k = .readGenerator ∧ 8 ≤ n.toNat) ∨ (k = .setMode ∧ 2 ≤ n.toNat) ∨
      (k = .readStore ∧ 64 ≤ n.toNat ∧ n.toNat ≤ 254)) →
    exec c s = .next (s.respond r k.code ⟨.badParameter, []⟩))

/-- Every request taken is answered on its own port with its tag and kind, but for a RESTART and a SET_SETTING, whose
answers may go out before a reset or wait for a write; a refused request changes nothing else and its answer carries no
data (R177). -/
def Obligations.TakenRequestsAreAnsweredAndRefusalsChangeNothing : Prop :=
  ∀ (c : Instr) (k : RequestKind) (r : Request) (s : State), request? c = some (k, r) → s.Takes r →
    k ≠ .restart → k ≠ .setSetting →
    ∃ t resp, exec c s = .next t ∧ (t.port r.port).answer = .answering (some resp) ∧ resp.tag = r.tag ∧
      resp.kind = k.code ∧
      (resp.status ∉ [Status.ok, .queued, .accepted, .alreadyHeld] → t = s.respond r k.code ⟨resp.status, []⟩)

/-- A request of unknown kind is answered UNKNOWN_REQUEST in SCANNING and RUNNING and changes nothing (R177).
Discarded frames: each adds one to the port's bad-frame count up to 255, an overlong one also makes the port ignore
bytes until the link falls idle, and none is counted on a port that takes no frames, or begun before the port took them
(R174 to R176). When the response frame has gone out the port is READY again (R176). That a LINK_IDLE_TIMEOUT stands for
one frame left incomplete is read from the spec (log entry 14), and that a RESPONSE_SENT changes nothing on a port with
no response waiting is the model's choice (log entry 7). -/
def Obligations.LinkEventsCountAndRelease : Prop :=
  (∀ (kind : Byte) (r : Request) (s : State),
    (s.startup ≠ .held → (s.port r.port).answer = .ready → (s.port r.port).ignoring = false → r.inTime = true →
      exec (.unknownRequest kind r) s = .next (s.respond r kind ⟨.unknownRequest, []⟩)) ∧
    (s.startup = .held ∨ (s.port r.port).answer ≠ .ready ∨ (s.port r.port).ignoring = true ∨ r.inTime = false →
      exec (.unknownRequest kind r) s = .next s)) ∧
  (∀ (f : LostFrame) (s : State),
    let p := f.port
    (s.startup ≠ .held → (s.port p).answer = .ready → (s.port p).ignoring = false → f.inTime = true →
      exec (.badFrame f) s = .next (s.setPort p { s.port p with badFrames := min 255 ((s.port p).badFrames + 1) }) ∧
      exec (.linkIdleTimeout f) s =
        .next (s.setPort p { s.port p with badFrames := min 255 ((s.port p).badFrames + 1) }) ∧
      exec (.frameLengthOver f) s = .next (s.setPort p { s.port p with
        badFrames := min 255 ((s.port p).badFrames + 1), ignoring := true })) ∧
    ((s.port p).ignoring = true →
      exec (.linkIdleTimeout f) s = .next (s.setPort p { s.port p with ignoring := false }) ∧
      exec (.badFrame f) s = .next s ∧ exec (.frameLengthOver f) s = .next s) ∧
    ((s.port p).ignoring = false → (s.startup = .held ∨ (s.port p).answer ≠ .ready ∨ f.inTime = false) →
      exec (.badFrame f) s = .next s ∧ exec (.linkIdleTimeout f) s = .next s ∧ exec (.frameLengthOver f) s = .next s)) ∧
  (∀ (p : Port) (s : State),
    (∀ resp, (s.port p).answer = .answering (some resp) →
      exec (.responseSent p) s =
        .next (s.setPort p { s.port p with answer := .ready, sent := (s.port p).sent ++ [resp] })) ∧
    ((s.port p).answer = .ready ∨ (s.port p).answer = .answering none → exec (.responseSent p) s = .next s))

/-- An event other than CLAIM_ENDED sets its flag in all three copies, CLAIM_ENDED in its holder's copy only, and both
leave the other flags (R181). The alert line of a port is high exactly while an event is both in its copy and in its
mask (R183); SET_ALERT_MASK replaces the port's own mask. -/
def Obligations.EventsMasksAndAlertLines : Prop :=
  (∀ (s : State) (e : Event), e ≠ .claimEnded →
    (∀ p, ((s.raise e).port p).events = (s.port p).events ||| e.bit) ∧
    s.raise e = { s with ports := (s.raise e).ports }) ∧
  (∀ (s : State) (f : FieldPort), let t := s.raiseFor f .claimEnded
    t = s.setPort f.port { s.port f.port with events := (s.port f.port).events ||| Event.claimEnded.bit } ∧
    ∀ p, p ≠ f.port → t.port p = s.port p) ∧
  (∀ (s : State) (p : Port), s.alertLine p = true ↔
    ∃ e : Event, (s.port p).events &&& e.bit ≠ 0 ∧ (s.port p).mask &&& e.bit ≠ 0) ∧
  ∀ (s : State) (r : Request) (hi lo : Byte), s.Takes r → r.params = [hi, lo] →
    exec (.setAlertMask r) s = .next (s.setPort r.port { s.port r.port with
      mask := hi ++ lo, answer := .answering (some ⟨r.tag, 0x21, .ok, [hi, lo]⟩) })

/-! ## The Drop Roster -/

/-- PLAN of a VACANT entry, or of a PLANNED entry without a job (R19). UNPLAN of a PLANNED entry without a job, or of
a BLOCKED one, outside SURVEY (R20). The refusals of both in their order: BAD_PARAMETER, MODE of UNPLAN in SURVEY,
CLAIMED, WRONG_STATE, JOB_PENDING (R18, R145). -/
def Obligations.PlanAndUnplan : Prop :=
  (∀ (s : State) (r : Request) (d : Drop) (plot provider : Nat), s.Takes r → r.port = .uplink →
    r.params = [byteOf d.val, byteOf (plot / 256), byteOf plot, byteOf provider] →
    1 ≤ plot → plot ≤ 4095 → 1 ≤ provider → provider ≤ 7 →
    let refused := fun st : Status => exec (.plan r) s = .next (s.respond r 0x0E ⟨st, []⟩)
    if s.claim d ≠ none then refused .claimed
    else if (s.entry d).state = .vacant then exec (.plan r) s =
      .next ((s.setEntry d { (s.entry d).unbound .planned with plot := plot, provider := provider }).respond r 0x0E .ok)
    else if (s.entry d).state ≠ .planned then refused .wrongState
    else if s.jobOf d ≠ none then refused .jobPending
    else exec (.plan r) s =
      .next ((s.setEntry d { s.entry d with plot := plot, provider := provider }).respond r 0x0E .ok)) ∧
  (∀ (s : State) (r : Request) (d p1 p0 v : Byte), s.Takes r → r.port = .uplink → r.params = [d, p1, p0, v] →
    (64 ≤ d.toNat ∨ (p1 = 0 ∧ p0 = 0) ∨ 16 ≤ p1.toNat ∨ v = 0 ∨ 8 ≤ v.toNat) →
    exec (.plan r) s = .next (s.respond r 0x0E ⟨.badParameter, []⟩)) ∧
  (∀ (s : State) (r : Request) (d : Drop), s.Takes r → r.port = .uplink → r.params = [byteOf d.val] →
    let refused := fun st : Status => exec (.unplan r) s = .next (s.respond r 0x0F ⟨st, []⟩)
    if s.mode = .survey then refused .mode
    else if s.claim d ≠ none then refused .claimed
    else if (s.entry d).state ≠ .planned ∧ (s.entry d).state ≠ .blocked then refused .wrongState
    else if (s.entry d).state = .planned ∧ s.jobOf d ≠ none then refused .jobPending
    else exec (.unplan r) s = .next ((s.setEntry d .empty).respond r 0x0F .ok)) ∧
  (∀ (s : State) (r : Request) (n : Byte), s.Takes r → r.port = .uplink → r.params = [n] → 64 ≤ n.toNat →
    exec (.unplan r) s = .next (s.respond r 0x0F ⟨.badParameter, []⟩))

/-- WITHDRAW: from ACTIVE and SILENT with a WITHDRAW call of the entry's serial, from BOUND without a job with none
(R21). Its refusals in their order: BAD_PARAMETER, MODE, CLAIMED, WRONG_STATE, JOB_PENDING (R18, R145). -/
def Obligations.WithdrawUnbindsTerminal : Prop :=
  (∀ (s : State) (r : Request) (d : Drop), s.Takes r → r.port = .uplink → r.params = [byteOf d.val] →
    let refused := fun st : Status => exec (.withdraw r) s = .next (s.respond r 0x10 ⟨st, []⟩)
    if s.mode = .survey then refused .mode
    else if s.claim d ≠ none then refused .claimed
    else if (s.entry d).state = .active ∨ (s.entry d).state = .silent then
      ∀ n, (s.entry d).serial = some n → exec (.withdraw r) s = .next (((s.sendCall d.branch (.withdraw n)).setEntry d
        { (s.entry d).unbound .planned with lastLevel := none }).respond r 0x10 .ok)
    else if (s.entry d).state ≠ .bound then refused .wrongState
    else if s.jobOf d ≠ none then refused .jobPending
    else exec (.withdraw r) s =
      .next ((s.setEntry d { (s.entry d).unbound .planned with lastLevel := none }).respond r 0x10 .ok)) ∧
  (∀ (s : State) (r : Request) (n : Byte), s.Takes r → r.port = .uplink → r.params = [n] → 64 ≤ n.toNat →
    exec (.withdraw r) s = .next (s.respond r 0x10 ⟨.badParameter, []⟩))

/-- UNBLOCK of a BLOCKED entry makes it PLANNED with its plot and provider; the last result, last serial, last level,
working offset and offset source are kept, and no call is sent. In any other state it is answered WRONG_STATE and
changes nothing (R22). In SURVEY it is answered MODE, on a claimed drop CLAIMED, and for a drop outside 0..63
BAD_PARAMETER (R18, R145). -/
def Obligations.UnblockMakesPlanned : Prop :=
  (∀ (s : State) (r : Request) (d : Drop), s.Takes r → r.port = .uplink → r.params = [byteOf d.val] →
    s.mode ≠ .survey → s.claim d = none →
    ((s.entry d).state = .blocked → ∃ t, exec (.unblock r) s = .next t ∧
      t = (s.setEntry d (t.entry d)).respond r 0x11 .ok ∧ (t.entry d).state = .planned ∧
      (t.entry d).plot = (s.entry d).plot ∧ (t.entry d).provider = (s.entry d).provider ∧
      (t.entry d).lastResult = (s.entry d).lastResult ∧ (t.entry d).lastLevel = (s.entry d).lastLevel ∧
      (t.entry d).workingOffset = (s.entry d).workingOffset ∧ (t.entry d).offsetSource = (s.entry d).offsetSource ∧
      ((s.entry d).serial = none → (t.entry d).lastSerial = (s.entry d).lastSerial) ∧ (t.entry d).serial = none) ∧
    ((s.entry d).state ≠ .blocked → exec (.unblock r) s = .next (s.respond r 0x11 ⟨.wrongState, []⟩))) ∧
  (∀ (s : State) (r : Request) (d : Drop), s.Takes r → r.port = .uplink → r.params = [byteOf d.val] →
    (s.mode = .survey → exec (.unblock r) s = .next (s.respond r 0x11 ⟨.mode, []⟩)) ∧
    (s.mode ≠ .survey → s.claim d ≠ none → exec (.unblock r) s = .next (s.respond r 0x11 ⟨.claimed, []⟩))) ∧
  (∀ (s : State) (r : Request) (n : Byte), s.Takes r → r.port = .uplink → r.params = [n] → 64 ≤ n.toNat →
    exec (.unblock r) s = .next (s.respond r 0x11 ⟨.badParameter, []⟩))

/-- SET_OFFSET in any entry state, with or without a job (R23). CLEAR_SILENCE of a SILENT entry, from any port that
may act on the drop (R130, R131). The refusals of both in their order: BAD_PARAMETER, MODE, CLAIMED or NOT_CLAIMED, and
WRONG_STATE of CLEAR_SILENCE (R18, R130, R143, R145). That this order holds of a second CLEAR_SILENCE from another port
too, where the table of its races gives WRONG_STATE, is the model's choice (log entry 33). -/
def Obligations.SetOffsetAndClearSilence : Prop :=
  (∀ (s : State) (r : Request) (d : Drop) (code : Nat) (src : OffsetSource), s.Takes r → r.port = .uplink →
    r.params = [byteOf d.val, byteOf code, byteOf src.code] → code ≤ 127 →
    let refused := fun st : Status => exec (.setOffset r) s = .next (s.respond r 0x12 ⟨st, []⟩)
    if s.mode = .survey then refused .mode
    else if s.claim d ≠ none then refused .claimed
    else exec (.setOffset r) s =
      .next ((s.setEntry d { s.entry d with workingOffset := code, offsetSource := src }).respond r 0x12 .ok)) ∧
  (∀ (s : State) (r : Request) (d c v : Byte), s.Takes r → r.port = .uplink → r.params = [d, c, v] →
    (64 ≤ d.toNat ∨ 128 ≤ c.toNat ∨ 2 ≤ v.toNat) →
    exec (.setOffset r) s = .next (s.respond r 0x12 ⟨.badParameter, []⟩)) ∧
  (∀ (s : State) (r : Request) (d : Drop), s.Takes r → r.params = [byteOf d.val] →
    let refused := fun st : Status => exec (.clearSilence r) s = .next (s.respond r 0x13 ⟨st, []⟩)
    if s.mode = .survey then refused .mode
    else if s.mayAct r.port d = false then refused (if r.port = .uplink then .claimed else .notClaimed)
    else if (s.entry d).state ≠ .silent then refused .wrongState
    else ∀ p, (s.entry d).presence = some p → exec (.clearSilence r) s = .next ((s.setEntry d { s.entry d with
        state := .active, rejoinPending := false
        presence := some ⟨0, 0, p.divisor, p.silenceLimit, false, false⟩ }).respond r 0x13 .ok)) ∧
  (∀ (s : State) (r : Request) (n : Byte), s.Takes r → r.params = [n] → 64 ≤ n.toNat →
    exec (.clearSilence r) s = .next (s.respond r 0x13 ⟨.badParameter, []⟩))

/-- The effective level is the raw level plus the offset code less 64, clamped to 0..100 (R7). A PRESENCE burst of an
ACTIVE entry's serial on its own branch, with no echo: the interval is noted, the count starts again, and the level
becomes the last level and is judged for drift, inside or outside the accept window (R125, R129). A PRESENCE burst of
a SILENT entry's serial sets heard-while-silent, leaves the counts, and is judged for level (R128). -/
def Obligations.PresenceBurstsCountAndJudgeLevel : Prop :=
  (∀ (s : State) (d : Drop) (raw : Nat),
    (s.levelOf d raw : Int) = max 0 (min 100 ((raw : Int) + ((s.offsetCode d : Int) - 64))) ∧
    ((s.entry d).offsetSource = .working → s.offsetCode d = (s.entry d).workingOffset) ∧
    ((s.entry d).offsetSource = .store → (∀ b, s.image d = .filled b → s.offsetCode d = b.offset) ∧
      ((∀ b, s.image d ≠ .filled b) → s.offsetCode d = 64))) ∧
  (∀ (s : State) (d : Drop) (n : Serial) (raw : Nat) (obs : Steps) (p : PresenceRecord), s.Listening d.branch → n ≠ 0 →
    raw ≤ 127 → (s.entry d).serial = some n → (∀ e, e ≠ d → (s.entry e).serial ≠ some n) →
    (s.entry d).state = .active → (s.entry d).presence = some p →
    (∀ g, (s.gen g).attached.isSome = true → (s.gen g).observed ≠ obs) →
    let level := s.levelOf d raw
    let out := decide (level < s.settings.acceptLow ∨ s.settings.acceptHigh < level)
    let t := s.setEntry d { s.entry d with
      presence := some { p with lastInterval := p.running, running := 0 }, lastLevel := some level, levelDrift := out }
    exec (.presence d.branch (cleanBurst 4 0 n (payloadOf raw obs))) s =
      .next (if out = true ∧ (s.entry d).levelDrift = false then t.raise .levelDrift else t)) ∧
  (∀ (s : State) (d : Drop) (raw : Nat) (p : PresenceRecord), (s.entry d).state = .silent →
    (s.entry d).presence = some p →
    let level := s.levelOf d raw
    let out := decide (level < s.settings.acceptLow ∨ s.settings.acceptHigh < level)
    let t := s.setEntry d { s.entry d with
      presence := some { p with heardWhileSilent := true }, lastLevel := some level, levelDrift := out }
    s.takePresence d raw = if out = true ∧ (s.entry d).levelDrift = false then t.raise .levelDrift else t)

/-! ## Jobs -/

/-- An ACTIVATE that passes every check (R30) appends its job at the tail and is answered QUEUED; in HOLD, with no job
ready for the window and no open call due, that is all it does (R31, R48). The refusals of ACTIVATE in their order
(R30): MODE, the claim check, WRONG_STATE, JOB_PENDING, QUEUE_FULL. -/
def Obligations.ActivateQueuesOrRefuses : Prop :=
  (∀ (s : State) (r : Request) (d : Drop), s.Takes r → r.params = [byteOf d.val] → s.mayAct r.port d = true →
    (s.mode = .live ∨ (s.mode = .hold ∧ s.resume = .live)) →
    s.jobOf d = none → (s.queue d.branch).length < 6 →
    ∀ k : JobKind, ((s.entry d).state = .planned ∧ k = .activate ∨ (s.entry d).state = .bound ∧ k = .rejoin) →
      exec (.activate r) s =
        .next (((s.appendJob d k (.port r.port)).proceed d.branch).respond r 0x14 ⟨.queued, []⟩) ∧
      (s.appendJob d k (.port r.port)).queue d.branch =
        s.queue d.branch ++ [⟨d, k, .waiting, .port r.port, 0⟩] ∧
      (s.mode = .hold → (s.branch d.branch).openDue = false →
        (∀ j ∈ (s.queue d.branch).head?, j.stage = .waiting ∨ j.stage = .admitting) →
        (s.appendJob d k (.port r.port)).proceed d.branch = s.appendJob d k (.port r.port))) ∧
  (∀ (s : State) (r : Request) (d : Drop), s.Takes r → r.params = [byteOf d.val] →
    let refused := fun st : Status => exec (.activate r) s = .next (s.respond r 0x14 ⟨st, []⟩)
    if s.mode = .survey ∨ (s.mode = .hold ∧ s.resume = .survey) then refused .mode
    else if s.mayAct r.port d = false then refused (if r.port = .uplink then .claimed else .notClaimed)
    else if (s.entry d).state ≠ .planned ∧ (s.entry d).state ≠ .bound then refused .wrongState
    else if s.jobOf d ≠ none then refused .jobPending
    else if 6 ≤ (s.queue d.branch).length then refused .queueFull
    else True)

/-- A head job in WAITING starts in LIVE: a REJOIN job enters RANGE with its entry RANGING; an ACTIVATE job enters
WAIT_TRACE, and takes the lowest-numbered free generator with its branch's code when none is on its drop (R39, R116). In
any other mode, or past WAITING, the head stays (R48). The window is granted whenever it is NONE and a claimant is
present, to a due open call first; each grant sends its call and begins its listening period (R36, R38, R53, R60). A
burst in progress on the lane when a RANGE_CALL goes out keeps no reading of the range counter, so that it is ignored as
a reply (R61). A branch proceeds in this order: its head starts, and then its window is granted (R42). -/
def Obligations.HeadStartsAndWindowIsGranted : Prop :=
  (∀ (s : State) (b : Branch) (j : Job) (js : List Job), s.queue b = j :: js →
    ((s.mode ≠ .live ∨ j.stage ≠ .waiting) → s.startHead b = s) ∧
    (s.mode = .live → j.stage = .waiting → j.kind = .rejoin → (s.entry j.drop).state = .bound →
      s.startHead b = (s.setQueue b ({ j with stage := .range, attempts := 0 } :: js)).setEntry j.drop
        { s.entry j.drop with state := .ranging, rejoinPending := false }) ∧
    (s.mode = .live → j.stage = .waiting → j.kind = .activate → (s.branch b).frameMarks = none →
      (∀ g, s.genOn j.drop = none → s.freeGen = some g →
        ∃ t, s.startHead b = t ∧ t.queue b = { j with stage := .waitTrace } :: js ∧
          t.gen g = ⟨some (j.drop, .binding b), bindingCode b, 12, .cleared⟩ ∧
          (∀ h, h ≠ g → t.gen h = s.gen h) ∧ t.lastServed = b ∧ (t.branch b).frameMarks = some 0 ∧
          t.roster = s.roster) ∧
      ((s.genOn j.drop ≠ none ∨ s.freeGen = none) →
        s.startHead b = s.setQueue b ({ j with stage := .waitTrace } :: js)))) ∧
  (∀ (s : State) (b : Branch),
    ((s.branch b).window ≠ .none → s.grant b = s) ∧
    ((s.branch b).window = .none → (s.branch b).openDue = true → s.grant b =
      (s.setBranch b { s.branch b with window := .openCall, listenMs := some 300, openDue := false }).sendCall b
        (.openCall b)) ∧
    ((s.branch b).window = .none → (s.branch b).openDue = false →
      (∀ j js, s.queue b = j :: js → j.stage = .matching → s.grant b =
        (s.setBranch b { s.branch b with
          queue := { j with attempts := j.attempts + 1 } :: js, window := .matchListen
          listenMs := some (12 * s.frameWidth), decided := none }).sendCall b (.matchCall (bindingCode b))) ∧
      (∀ j js n, s.queue b = j :: js → j.stage = .range → (s.entry j.drop).serial = some n → s.grant b =
        ((s.setBranch b { s.branch b with
          queue := { j with attempts := j.attempts + 1 } :: js, window := .rangeListen
          listenMs := some 200, rangeCounter := some ⟨0, false⟩ }).setLane b { s.lane b with
            rx := (s.lane b).rx.map fun r => { r with counter := none } }).sendCall b (.rangeCall n)) ∧
      ((∀ j ∈ (s.queue b).head?, j.stage ≠ .matching ∧ j.stage ≠ .range) → s.grant b = s)) ∧
    s.proceed b = (s.startHead b).grant b)

/-- The end of a job takes it from its queue and gives its entry the ending values; no binding generator stays on its
drop, the jobs of other branches stand, and nothing but branches, lanes, entries, generators and event copies changes
(R42). A window the job holds is cut short, so that it is NONE and its fields are absent, while a MATCH_LISTEN that has
judged a good reply runs on, and the admit wait of a running job becomes absent; then the event is raised, the queue
refilled, the next head started and the window granted (R42, R51). A refill takes the lowest-numbered pending drop of
the branch, appends its REJOIN job at the tail and clears its flag; with no flag set, no place free or intake closed it
changes nothing, and a departure makes one refill (R33). -/
def Obligations.EndedJobLeavesItsQueue : Prop :=
  (∀ (s : State) (j : Job) (e : Entry) (ev : Option Event), s.JobInv → j ∈ s.queue j.drop.branch →
    e.rejoinPending = false →
    (j.stage ≠ .waitTrace ∧ j.stage ≠ .matching → ∀ g, (s.gen g).attached ≠ some (j.drop, .binding j.drop.branch)) →
    let t := s.endJob j e ev
    t.jobOf j.drop = none ∧ t.entry j.drop = e ∧
    (∀ g, (t.gen g).attached ≠ some (j.drop, .binding j.drop.branch)) ∧
    (∀ b, b ≠ j.drop.branch → (t.queue b).map Job.drop = (s.queue b).map Job.drop) ∧
    (t.queue j.drop.branch).length ≤ (s.queue j.drop.branch).length ∧
    (j.stage ≠ .waiting → (t.branch j.drop.branch).admitWait = none) ∧
    (∀ x, ev = some x → ∀ p, (t.port p).events = (s.port p).events ||| x.bit) ∧
    t = { s with
      branches := t.branches, lanes := t.lanes, roster := t.roster, generators := t.generators
      lastServed := t.lastServed, ports := t.ports }) ∧
  (∀ (s : State) (j : Job) (e : Entry) (ev : Option Event),
    let b := j.drop.branch
    let u := s.dropJob j e
    let held := (j.stage = .matching ∧ (s.branch b).window = .matchListen ∧
      ∀ n, (s.branch b).decided ≠ some (n, .succeeded)) ∨ (j.stage = .range ∧ (s.branch b).window = .rangeListen)
    s.endJob j e ev = (((match ev with | some x => u.raise x | none => u).refill b).proceed b) ∧
    u.queue b = (s.queue b).filter (fun k => k.drop ≠ j.drop) ∧ u.entry j.drop = e ∧
    (∀ d, d ≠ j.drop → u.entry d = s.entry d) ∧
    (held → (u.branch b).window = .none ∧ (u.branch b).listenMs = none ∧ (u.branch b).decided = none ∧
      (u.branch b).rangeCounter = none) ∧
    (¬ held → (u.branch b).window = (s.branch b).window ∧ (u.branch b).listenMs = (s.branch b).listenMs ∧
      (u.branch b).decided = (s.branch b).decided ∧ (u.branch b).rangeCounter = (s.branch b).rangeCounter) ∧
    (j.stage ≠ .waiting → (u.branch b).admitWait = none) ∧
    (j.stage = .waiting → (u.branch b).admitWait = (s.branch b).admitWait) ∧
    (u.branch b).openDue = (s.branch b).openDue ∧ (u.branch b).openTimer = (s.branch b).openTimer) ∧
  (∀ (s : State) (b : Branch),
    (∀ d : Drop, s.intakeOpen = true → (s.queue b).length < 6 → d.branch = b → (s.entry d).rejoinPending = true →
      (∀ e : Drop, e.branch = b → e < d → (s.entry e).rejoinPending = false) →
      s.refill b = (s.setBranch b { s.branch b with
        queue := s.queue b ++ [⟨d, .rejoin, .waiting, .roster, 0⟩] }).setEntry d
          { s.entry d with rejoinPending := false }) ∧
    ((s.intakeOpen = false ∨ 6 ≤ (s.queue b).length ∨
      ∀ d : Drop, d.branch = b → (s.entry d).rejoinPending = false) → s.refill b = s))

/-- CANCEL ends the drop's job by its stage: the entry keeps its state in WAITING and WAIT_TRACE, becomes PLANNED from
MATCH and BOUND from RANGE and ADMIT, from ADMIT after a WITHDRAW call; the result is CANCELLED and no event is raised.
Nothing else happens than the end of a job: its window is cut short, its generator released, its place refilled, and the
next head started (R42, R45). A CANCEL of a drop without a job is answered NOT_FOUND, and one from a port that may not
act on the drop CLAIMED or NOT_CLAIMED before that; it changes nothing (R44). -/
def Obligations.CancelEndsJobByStage : Prop :=
  (∀ (s : State) (r : Request) (d : Drop) (j : Job), s.JobInv → s.Takes r → r.params = [byteOf d.val] →
    s.mayAct r.port d = true → s.jobOf d = some j →
    let e := match j.stage with
      | .waiting | .waitTrace => { s.entry d with lastResult := .cancelled }
      | .matching => { (s.entry d).unbound .planned with lastResult := .cancelled }
      | .range | .admitting => { (s.entry d).boundAgain with lastResult := .cancelled }
    ∃ t, exec (.cancel r) s = .next t ∧
      (j.stage ≠ .admitting → t = (s.endJob j e none).respond r 0x15 .ok) ∧
      (j.stage = .admitting → ∀ n, (s.entry d).serial = some n →
        t = ((s.sendCall d.branch (.withdraw n)).endJob j e none).respond r 0x15 .ok) ∧
      (t.port r.port) = { s.port r.port with answer := .answering (some ⟨r.tag, 0x15, .ok, []⟩) } ∧
      (∀ p, p ≠ r.port → t.port p = s.port p) ∧ t.jobOf d = none ∧
      t.entry d = e ∧
      (j.stage = .admitting → ∀ n, (s.entry d).serial = some n →
        ((s.lane d.branch).calls ++ [.withdraw n]) <+: (t.lane d.branch).calls) ∧
      t = { s with
        branches := t.branches, lanes := t.lanes, roster := t.roster, generators := t.generators
        lastServed := t.lastServed, ports := t.ports }) ∧
  (∀ (s : State) (r : Request) (d : Drop), s.Takes r → r.params = [byteOf d.val] → s.mayAct r.port d = true →
    s.jobOf d = none → exec (.cancel r) s = .next (s.respond r 0x15 ⟨.notFound, []⟩)) ∧
  (∀ (s : State) (r : Request) (d : Drop), s.Takes r → r.params = [byteOf d.val] → s.mayAct r.port d = false →
    exec (.cancel r) s = .next (s.respond r 0x15 ⟨if r.port = .uplink then .claimed else .notClaimed, []⟩))

/-! ## Trace generators -/

/-- TRACE of an untraced drop with a lit sequence that no binding code and no attached generator presents attaches the
lowest-numbered free generator with a cleared echo record (R111, R112). The refusals of TRACE in their order:
BAD_PARAMETER for a drop outside 0..63, a pattern with one of bits 15..12 set or a length other than 8, 9, 10 and 12,
and then those of a request whose parameters are in range (R111, R185). -/
def Obligations.TraceAttachesOrRefuses : Prop :=
  (∀ (s : State) (r : Request) (d : Drop) (pattern : Steps) (l : Nat) (g : Gen), s.Takes r →
    r.params = [byteOf d.val, byteOf (pattern.toNat / 256), byteOf pattern.toNat, byteOf l] →
    l ∈ [8, 9, 10, 12] → s.mayAct r.port d = true →
    observedOf pattern l ≠ 0 → (∀ b, bindingCode b ≠ observedOf pattern l) →
    (∀ h, (s.gen h).attached.isSome = true → (s.gen h).observed ≠ observedOf pattern l) →
    (∀ h a, (s.gen h).attached = some a → a.1 ≠ d) →
    (s.gen g).attached = none → (∀ h, h < g → (s.gen h).attached ≠ none) →
    exec (.trace r) s = .next ((s.setGen g ⟨some (d, .port r.port), pattern, l, .cleared⟩).respond r 0x16
      ⟨.ok, [byteOf g.val]⟩)) ∧
  (∀ (s : State) (r : Request) (d : Drop) (pattern : Steps) (l : Nat), s.Takes r →
    r.params = [byteOf d.val, byteOf (pattern.toNat / 256), byteOf pattern.toNat, byteOf l] → l ∈ [8, 9, 10, 12] →
    let refused := fun st : Status => exec (.trace r) s = .next (s.respond r 0x16 ⟨st, []⟩)
    if s.mayAct r.port d = false then refused (if r.port = .uplink then .claimed else .notClaimed)
    else if observedOf pattern l = 0 then refused .badPattern
    else if (∃ b, bindingCode b = observedOf pattern l) ∨
        (∃ g, (s.gen g).attached ≠ none ∧ (s.gen g).observed = observedOf pattern l) then refused .patternInUse
    else if ∃ g a, (s.gen g).attached = some a ∧ a.1 = d then refused .wrongState
    else if ∀ g, (s.gen g).attached ≠ none then refused .noGenerator
    else True) ∧
  (∀ (s : State) (r : Request) (d p1 p0 l : Byte), s.Takes r → r.params = [d, p1, p0, l] →
    (64 ≤ d.toNat ∨ 16 ≤ p1.toNat ∨ l.toNat ∉ [8, 9, 10, 12]) →
    exec (.trace r) s = .next (s.respond r 0x16 ⟨.badParameter, []⟩))

/-- UNTRACE by the owner detaches the drop's generator, which keeps its pattern, length and echo record, and offers it
to the binding jobs that wait for one; with no head in WAIT_TRACE the offer changes nothing. A port that may not act on
the drop is answered CLAIMED or NOT_CLAIMED, another owner WRONG_STATE and an untraced drop NOT_FOUND, in this order
(R113, R115, R143). A freed generator goes to the first branch, in turn after the last-served one, whose head job waits
in WAIT_TRACE with no generator on its drop; it becomes the last served, and with no such branch nothing changes. Where
several generators are freed together, all of them detach first, and they are then offered lowest-numbered first (R117).
-/
def Obligations.UntraceDetachesAndFreedGeneratorIsOffered : Prop :=
  (∀ (s : State) (r : Request) (d : Drop), s.Takes r → r.params = [byteOf d.val] → s.mayAct r.port d = true →
    (∀ g, (s.gen g).attached = some (d, .port r.port) →
      (∀ h a, (s.gen h).attached = some a → a.1 = d → h = g) →
      let freed := s.setGen g { s.gen g with attached := none }
      exec (.untrace r) s = .next ((freed.offer g).respond r 0x17 ⟨.ok, [byteOf g.val]⟩) ∧
      ((∀ b, (s.queue b).head?.map Job.stage ≠ some .waitTrace) →
        exec (.untrace r) s = .next (freed.respond r 0x17 ⟨.ok, [byteOf g.val]⟩))) ∧
    (∀ g o, (s.gen g).attached = some (d, o) → (∀ h a, (s.gen h).attached = some a → a.1 = d → h = g) →
      o ≠ .port r.port → exec (.untrace r) s = .next (s.respond r 0x17 ⟨.wrongState, []⟩)) ∧
    ((∀ g a, (s.gen g).attached = some a → a.1 ≠ d) →
      exec (.untrace r) s = .next (s.respond r 0x17 ⟨.notFound, []⟩))) ∧
  (∀ (s : State) (r : Request) (d : Drop), s.Takes r → r.params = [byteOf d.val] → s.mayAct r.port d = false →
    exec (.untrace r) s = .next (s.respond r 0x17 ⟨if r.port = .uplink then .claimed else .notClaimed, []⟩)) ∧
  (∀ (s : State) (g : Gen),
    (∀ (b : Branch) (i : Fin 4) (j : Job) (js : List Job), b = s.lastServed + 1 + i → s.queue b = j :: js →
      j.stage = .waitTrace → (s.branch b).frameMarks = none → s.genOn j.drop = none →
      (∀ k : Fin 4, k < i → s.bindingWait (s.lastServed + 1 + k) ≠ some .eligible) →
      s.offer g = { (s.setGen g ⟨some (j.drop, .binding b), bindingCode b, 12, .cleared⟩).setBranch b
        { s.branch b with frameMarks := some 0 } with lastServed := b }) ∧
    ((∀ b, s.bindingWait b ≠ some .eligible) → s.offer g = s)) ∧
  (∀ (s : State) (p : Generator → Bool), ∃ u : State, u = { s with generators := u.generators } ∧
    (∀ g, u.gen g = if p (s.gen g) = true then { s.gen g with attached := none } else s.gen g) ∧
    s.detachAndOffer p = (([0, 1, 2, 3, 4, 5, 6, 7] : List Gen).filter fun g =>
      (s.gen g).attached.isSome && p (s.gen g)).foldl State.offer u)

/-- The observed sequence is the first steps of the pattern, as many as the length, and dark steps after them (R108).
The lines of a drop: with a generator attached both follow its observed sequence; otherwise the emitter is dark and
the lamp follows the entry's state; with the frame timer stopped both are dark (R25, R109, R120). An echo raises the
count up to 255, keeps the first serial and branch, and sets the three flags (R119). -/
def Obligations.SequencesLinesAndEchoes : Prop :=
  (∀ (pattern : Steps) (l : Nat) (step : Nat), l ∈ [8, 9, 10, 12] → 1 ≤ step → step ≤ 12 →
    Steps.lit (observedOf pattern l) step = (decide (step ≤ l) && Steps.lit pattern step)) ∧
  (∀ (s : State) (d : Drop),
    (s.frame = none → s.emitter d = false ∧ s.lamp d = false) ∧
    ∀ f, s.frame = some f →
      (∀ g, s.genOn d = some g → s.emitter d = Steps.lit (s.gen g).observed f.step ∧
        s.lamp d = Steps.lit (s.gen g).observed f.step) ∧
      (s.genOn d = none → s.emitter d = false ∧
        s.lamp d = match (s.entry d).state with
          | .active => true
          | .silent => decide (f.step ≤ 6)
          | _ => false)) ∧
  (∀ (s : State) (g : Gen) (d : Drop) (o : Owner) (n : Serial) (b : Branch) (obs : Steps) (bound : Option Drop),
    (s.gen g).attached = some (d, o) → (s.gen g).observed = obs →
    (∀ h, (s.gen h).attached.isSome = true → (s.gen h).observed = obs → h = g) →
    let e := (s.gen g).echo
    s.takeEcho n b obs bound = s.setGen g { s.gen g with
      echo := {
        count := min 255 (e.count + 1)
        first := e.first.or (some (n, b))
        wrongBranch := e.wrongBranch || decide (b.val ≠ d.val / 16)
        boundElsewhere := e.boundElsewhere || decide (bound ≠ none ∧ bound ≠ some d)
        multiple := e.multiple || decide (∃ f ∈ e.first, f.1 ≠ n) } })

/-! ## Claims -/

/-- CLAIM by a field port: CLAIMED for the other port's drop, ALREADY_HELD with a renewed lease for its own,
CLAIM_LIMIT at 8 drops, and otherwise OK with the lease in force and its lapse mark cleared (R135). RENEW by a field
port: OK with the full lease on a drop it holds; LAPSED or NOT_CLAIMED, with no change, on any other (R136). -/
def Obligations.ClaimAndRenewSetLease : Prop :=
  (∀ (s : State) (r : Request) (d : Drop) (f : FieldPort), s.Takes r → r.port = f.port → r.params = [byteOf d.val] →
    (∀ c, s.claim d = some c → c.holder ≠ f → exec (.claim r) s = .next (s.respond r 0x18 ⟨.claimed, []⟩)) ∧
    (∀ c, s.claim d = some c → c.holder = f → exec (.claim r) s =
      .next ((s.setClaim d (some ⟨f, s.settings.lease⟩)).respond r 0x18 ⟨.alreadyHeld, [byteOf s.settings.lease]⟩)) ∧
    (s.claim d = none → 8 ≤ s.claimCount f → exec (.claim r) s = .next (s.respond r 0x18 ⟨.claimLimit, []⟩)) ∧
    (s.claim d = none → s.claimCount f < 8 → ∃ t, exec (.claim r) s = .next t ∧
      t = ((s.setClaim d (some ⟨f, s.settings.lease⟩)).clearLapse f d).respond r 0x18
        ⟨.ok, [byteOf s.settings.lease]⟩ ∧
      t.lapsed f d = false ∧ ∀ (h : FieldPort) (e : Drop), (h ≠ f ∨ e ≠ d) → t.lapsed h e = s.lapsed h e)) ∧
  (∀ (s : State) (r : Request) (d : Drop) (f : FieldPort), s.Takes r → r.port = f.port → r.params = [byteOf d.val] →
    ((∃ c, s.claim d = some c ∧ c.holder = f) → exec (.renew r) s =
      .next ((s.setClaim d (some ⟨f, s.settings.lease⟩)).respond r 0x19 ⟨.ok, [byteOf s.settings.lease]⟩)) ∧
    ((∀ c, s.claim d = some c → c.holder ≠ f) → s.lapsed f d = true →
      exec (.renew r) s = .next (s.respond r 0x19 ⟨.lapsed, []⟩)) ∧
    ((∀ c, s.claim d = some c → c.holder ≠ f) → s.lapsed f d = false →
      exec (.renew r) s = .next (s.respond r 0x19 ⟨.notClaimed, []⟩)))

/-- RELEASE, checked in the order STARTING, NOT_PERMITTED from the Uplink, BAD_PARAMETER; by the holder, the port's
generators on the drop detach and are offered, the claim becomes absent, the claim count falls by one, no event is
raised, the lapse marks stand, and the answer is OK; a port that does not hold the drop is answered LAPSED or
NOT_CLAIMED (R137). -/
def Obligations.ReleaseEndsClaimWithoutEvent : Prop :=
  (∀ (s : State) (r : Request) (h : Bool), s.startup = .scanning h → (s.port r.port).answer = .ready →
    (s.port r.port).ignoring = false → r.inTime = true → exec (.release r) s = .next (s.respond r 0x1A ⟨.starting, []⟩)) ∧
  (∀ (s : State) (r : Request), s.Takes r →
    (r.port = .uplink → exec (.release r) s = .next (s.respond r 0x1A ⟨.notPermitted, []⟩)) ∧
    (∀ n : Nat, r.port ≠ .uplink → 64 ≤ n → n ≤ 255 → r.params = [byteOf n] →
      exec (.release r) s = .next (s.respond r 0x1A ⟨.badParameter, []⟩))) ∧
  ∀ (s : State) (r : Request) (d : Drop) (f : FieldPort), s.Takes r → r.port = f.port → r.params = [byteOf d.val] →
    ((∃ c, s.claim d = some c ∧ c.holder = f) → ∃ t, exec (.release r) s = .next t ∧
      t = ((s.detachAndOffer (Generator.tracedBy f d)).setClaim d none).respond r 0x1A .ok ∧ t.claim d = none ∧
      (∀ e, e ≠ d → t.claim e = s.claim e) ∧ t.claimCount f + 1 = s.claimCount f ∧ t.lapses = s.lapses ∧
      (∀ g, (t.gen g).attached ≠ some (d, .port f.port)) ∧
      t.port r.port = { s.port r.port with answer := .answering (some ⟨r.tag, 0x1A, .ok, []⟩) } ∧
      (∀ p, p ≠ r.port → t.port p = s.port p) ∧ (∀ b, t.queue b = s.queue b) ∧
      t = { s with
        claims := t.claims, generators := t.generators, branches := t.branches, lastServed := t.lastServed
        ports := t.ports }) ∧
    ((∀ c, s.claim d = some c → c.holder ≠ f) →
      exec (.release r) s =
        .next (s.respond r 0x1A ⟨if s.lapsed f d = true then .lapsed else .notClaimed, []⟩))

/-- REVOKE: the claim becomes absent, the holder's generators leave the drop and are offered, while the others stand,
the holder's lapse mark is set, and CLAIM_ENDED is raised in the holder's copy alone; an unclaimed drop is answered
NOT_FOUND (R114, R117, R138). The generators that leave are those attached to the drop with the holder as their owner
(R114). -/
def Obligations.RevokeEndsClaimWithEvent : Prop :=
  (∀ (f : FieldPort) (d : Drop) (g : Generator),
    Generator.tracedBy f d g = decide (g.attached = some (d, .port f.port))) ∧
  ∀ (s : State) (r : Request) (d : Drop), s.Takes r → r.port = .uplink → r.params = [byteOf d.val] →
    (∀ c, s.claim d = some c → ∃ t, exec (.revoke r) s = .next t ∧
      t = ((((s.detachAndOffer (Generator.tracedBy c.holder d)).setClaim d none).setLapse c.holder d).raiseFor c.holder
        .claimEnded).respond r 0x1B .ok ∧
      t.claim d = none ∧
      (∀ e, e ≠ d → t.claim e = s.claim e) ∧
      (∀ g, (t.gen g).attached ≠ some (d, .port c.holder.port)) ∧
      t.lapsed c.holder d = true ∧
      (∀ (h : FieldPort) (e : Drop), (h ≠ c.holder ∨ e ≠ d) → t.lapsed h e = s.lapsed h e) ∧
      t.port r.port = { s.port r.port with answer := .answering (some ⟨r.tag, 0x1B, .ok, []⟩) } ∧
      t.port c.holder.port = (s.port c.holder.port).raise .claimEnded ∧
      (∀ p, p ≠ r.port → p ≠ c.holder.port → t.port p = s.port p) ∧ (∀ b, t.queue b = s.queue b) ∧
      t = { s with
        claims := t.claims, lapses := t.lapses, generators := t.generators, branches := t.branches
        lastServed := t.lastServed, ports := t.ports }) ∧
    (s.claim d = none → exec (.revoke r) s = .next (s.respond r 0x1B ⟨.notFound, []⟩))

/-! ## The Commissioning Store -/

/-- COMMIT of an ACTIVE entry and RELEASE_SLOT of any: the mark is written and the sequence taken at the acceptance, and
the snapshot with the working offset is what the write will store (R153 to R155). The refusals of COMMIT in their order
(R153). SAVE_SETTINGS: the header's mark is written, the snapshot holds every working setting and the working estate
identity, a given identity becoming the working one first, and the unsaved flag clears (R156, R179). The refusals of
RELEASE_SLOT and of SAVE_SETTINGS in their order (R155, R156). -/
def Obligations.StoreWritesSpendMarksAtAcceptance : Prop :=
  (∀ (s : State) (r : Request) (d : Drop), s.Takes r → r.port = .uplink → r.params = [byteOf d.val] →
    s.mode = .live → s.claim d = none → (s.slot d).marks < 4 → s.settings.alarm.threshold + 6 ≤ s.supply →
    s.controller = .idle →
    (∀ n delay, (s.entry d).state = .active → (s.entry d).serial = some n → (s.entry d).delay = some delay →
      exec (.commit r) s = .next ({ s.setSlot d { s.slot d with marks := (s.slot d).marks + 1 } with
        nextSeq := s.nextSeq + 1
        controller := .writing (.slot d (.filled ⟨(s.entry d).plot, (s.entry d).provider, n,
          (s.entry d).workingOffset, delay, s.nextSeq⟩)) }.respond r 0x1C ⟨.accepted, []⟩)) ∧
    exec (.releaseSlot r) s = .next ({ s.setSlot d { s.slot d with marks := (s.slot d).marks + 1 } with
      nextSeq := s.nextSeq + 1
      controller := .writing (.slot d (.empty s.nextSeq)) }.respond r 0x1D ⟨.accepted, []⟩)) ∧
  (∀ (s : State) (r : Request) (d : Drop), s.Takes r → r.port = .uplink → r.params = [byteOf d.val] →
    let refused := fun st : Status => exec (.commit r) s = .next (s.respond r 0x1C ⟨st, []⟩)
    if s.mode = .survey then refused .mode
    else if s.mode = .hold then refused .supplyLow
    else if s.claim d ≠ none then refused .claimed
    else if (s.entry d).state ≠ .active then refused .wrongState
    else if 4 ≤ (s.slot d).marks then refused .storeSpent
    else if s.supply < s.settings.alarm.threshold + 6 then refused .supplyLow
    else if s.controller ≠ .idle then refused .storeBusy
    else True) ∧
  (∀ (s : State) (r : Request), s.Takes r → r.port = .uplink → s.mode ≠ .hold → s.header.marks < 4 →
    s.settings.alarm.threshold + 6 ≤ s.supply → s.controller = .idle →
    (r.params = [] → exec (.saveSettings r) s = .next ({ s with
      header := { s.header with marks := s.header.marks + 1 }, unsaved := false
      controller := .writing (.header s.settings s.estateId) }.respond r 0x1E ⟨.accepted, []⟩)) ∧
    ∀ a b c d : Byte, r.params = [a, b, c, d] → exec (.saveSettings r) s = .next ({ s with
      header := { s.header with marks := s.header.marks + 1 }, unsaved := false, estateId := a ++ b ++ c ++ d
      controller := .writing (.header s.settings (a ++ b ++ c ++ d)) }.respond r 0x1E ⟨.accepted, []⟩)) ∧
  (∀ (s : State) (r : Request) (d : Drop), s.Takes r → r.port = .uplink → r.params = [byteOf d.val] →
    let refused := fun st : Status => exec (.releaseSlot r) s = .next (s.respond r 0x1D ⟨st, []⟩)
    if s.mode = .survey then refused .mode
    else if s.mode = .hold then refused .supplyLow
    else if s.claim d ≠ none then refused .claimed
    else if 4 ≤ (s.slot d).marks then refused .storeSpent
    else if s.supply < s.settings.alarm.threshold + 6 then refused .supplyLow
    else if s.controller ≠ .idle then refused .storeBusy
    else True) ∧
  (∀ (s : State) (r : Request), s.Takes r → r.port = .uplink → (r.params.length = 0 ∨ r.params.length = 4) →
    let refused := fun st : Status => exec (.saveSettings r) s = .next (s.respond r 0x1E ⟨st, []⟩)
    if s.mode = .hold then refused .supplyLow
    else if 4 ≤ s.header.marks then refused .storeSpent
    else if s.supply < s.settings.alarm.threshold + 6 then refused .supplyLow
    else if s.controller ≠ .idle then refused .storeBusy
    else True)

/-- The completion of a write stores the snapshot with its check, replaces the record's image, makes the controller IDLE
and raises STORE_DONE (R151); a RESTART held for it is then answered and carried out (R172). -/
def Obligations.WriteCompletionReplacesImage : Prop :=
  ∀ s : State, s.startup = .running →
    (∀ d body, s.controller = .writing (.slot d body) → s.restart = none →
      exec .storeWriteComplete s = .next ({ (s.setSlot d
          ⟨(s.slot d).marks, body.bytes, crc16 body.bytes, false⟩).setImage d body.image with
        controller := .idle }.raise .storeDone)) ∧
    (∀ st n, s.controller = .writing (.header st n) → s.restart = none →
      exec .storeWriteComplete s = .next ({ s with
        header := ⟨s.header.marks, headerBytes st n, crc16 (headerBytes st n), false⟩
        headerImage := .good, controller := .idle }.raise .storeDone)) ∧
    (∀ w tag, s.controller = .writing w → s.restart = some tag → s.NoHolds → ∃ t, exec .storeWriteComplete s = .next t ∧
      t.startup = .scanning false ∧ t.controller = .scanning ∧ t.restart = none ∧
      (t.port .uplink).sent = (s.port .uplink).sent ++ [⟨tag, 0x25, .ok, []⟩] ∧
      (t.port .uplink).answer = .ready ∧ (∀ p, (t.port p).causes = { (s.port p).causes with command := true }) ∧
      ∀ d body, w = .slot d body → t.slot d = ⟨(s.slot d).marks, body.bytes, crc16 body.bytes, false⟩)

/-- A completed write is found good by the scan: a FILLED body in range and an EMPTY body with a sequence come back as
their own images, unless no mark is written (R147, R151, R158). The settings a header write stores come back from the
header unchanged, with the estate identity (R148, R157). -/
def Obligations.StoreGivesBackWhatWasWritten : Prop :=
  (∀ r : StoreRecord, 1 ≤ r.marks →
    (∀ b : FilledBody, b.inRange = true → b.seq < 2 ^ 24 →
      (r.written (SlotBody.filled b).bytes).found = .filled b) ∧
    (∀ n, 1 ≤ n → n < 2 ^ 24 → (r.written (SlotBody.empty n).bytes).found = .empty n) ∧
    { r with cut := true }.found = .torn ∧ { r with marks := 0 }.found = .never) ∧
  (∀ (r : StoreRecord) (st : Settings) (n : BitVec 32),
    (∀ k : Setting, st.put k (st.value k) = some st) →
    (r.written (headerBytes st n)).headerBody = some (st, n))

/-! ## Settings and modes -/

/-- SET_SETTING of a setting the Supply Monitor does not use: the working value is replaced, the other settings stand,
and the unsaved flag is set; a repeated value changes nothing (R179, R180). A setting code that names no setting is
answered BAD_PARAMETER. A value outside the setting's range is answered BAD_PARAMETER and changes nothing; the range of
each setting, with accept low and accept high judged against each other's working value (R180). -/
def Obligations.SetSettingAndRanges : Prop :=
  (∀ (s : State) (r : Request) (i : Fin 16) (k : Setting) (v : Nat) (st : Settings), s.Takes r → r.port = .uplink →
    settingOrder[i]? = some k → v < 65536 →
    r.params = [byteOf (i.val + 1), byteOf (v / 256), byteOf v] → s.settings.put k v = some st →
    (st = s.settings → exec (.setSetting r) s = .next (s.respond r 0x1F .ok)) ∧
    (st ≠ s.settings → k ≠ .alarm → k ≠ .monitorMode →
      exec (.setSetting r) s = .next ({ s with settings := st, unsaved := true }.respond r 0x1F .ok)) ∧
    st.value k = v ∧ ∀ l, l ≠ k → st.value l = s.settings.value l) ∧
  (∀ (s : State) (r : Request) (c v1 v0 : Byte), s.Takes r → r.port = .uplink → r.params = [c, v1, v0] →
    (c = 0 ∨ 17 ≤ c.toNat) → exec (.setSetting r) s = .next (s.respond r 0x1F ⟨.badParameter, []⟩)) ∧
  (∀ (s : State) (r : Request) (i : Fin 16) (k : Setting) (v : Nat), s.Takes r → r.port = .uplink →
    settingOrder[i]? = some k → v < 65536 → r.params = [byteOf (i.val + 1), byteOf (v / 256), byteOf v] →
    s.settings.put k v = none → exec (.setSetting r) s = .next (s.respond r 0x1F ⟨.badParameter, []⟩)) ∧
  (∀ (st : Settings) (v : Nat),
    (st.put .openPeriod v ≠ none ↔ 1 ≤ v ∧ v ≤ 255) ∧ (st.put .stepWidth v ≠ none ↔ v = 40 ∨ v = 60 ∨ v = 80 ∨ v = 120) ∧
    (st.put .acceptLow v ≠ none ↔ v ≤ 100 ∧ v ≤ st.acceptHigh) ∧
    (st.put .acceptHigh v ≠ none ↔ v ≤ 100 ∧ st.acceptLow ≤ v) ∧ (st.put .span v ≠ none ↔ 1 ≤ v ∧ v ≤ 4095) ∧
    (st.put .divisor v ≠ none ↔ v = 1 ∨ v = 2 ∨ v = 4 ∨ v = 8) ∧ (st.put .silenceLimit v ≠ none ↔ 1 ≤ v ∧ v ≤ 255) ∧
    (st.put .lease v ≠ none ↔ 1 ≤ v ∧ v ≤ 60) ∧ (st.put .ageLimit v ≠ none ↔ 1 ≤ v ∧ v ≤ 60) ∧
    (st.put .providers v ≠ none ↔ v < 256 ∧ v % 2 = 0) ∧ (st.put .record v ≠ none ↔ v < 8192) ∧
    (∀ k ∈ [Setting.recovery, .tolerance, .monitorMode, .startMode], st.put k v ≠ none ↔ v ≤ 1) ∧
    (st.put .alarm v ≠ none ↔ v ≤ 2))

/-- SET_SETTING of the alarm level is compared with the present supply at once: a fall, a recovery, or a supply reset
taken after the answer OK has gone out; monitor mode RESET set while the monitor is LOW is a supply reset too, and the
other changes of the monitor mode act from the next level (R166). -/
def Obligations.ThresholdSettingActsAtOnce : Prop :=
  ∀ (s : State) (r : Request), s.Takes r → r.port = .uplink →
    let answeredThenReset := fun s1 : State => (s1.setPort r.port { s.port r.port with
      sent := (s.port r.port).sent ++ [⟨r.tag, 0x1F, .ok, []⟩] }).takeReset .supply
    (∀ (v : Nat) (a : AlarmLevel), alarmOf v = some a → a ≠ s.settings.alarm → r.params = [0x0E, 0, byteOf v] →
      let s1 : State := { s with settings := { s.settings with alarm := a }, unsaved := true }
      (s.settings.monitorMode = .alarm → s.monitor = .ok → s.supply < a.threshold →
        exec (.setSetting r) s = .next (s1.enterHold.respond r 0x1F .ok)) ∧
      (s.settings.monitorMode = .alarm → s.monitor = .ok → a.threshold ≤ s.supply →
        exec (.setSetting r) s = .next (s1.respond r 0x1F .ok)) ∧
      (s.settings.monitorMode = .alarm → s.monitor = .low → a.threshold + 2 ≤ s.supply →
        exec (.setSetting r) s = .next (s1.leaveHold.respond r 0x1F .ok)) ∧
      (s.settings.monitorMode = .alarm → s.monitor = .low → s.supply < a.threshold + 2 →
        exec (.setSetting r) s = .next (s1.respond r 0x1F .ok)) ∧
      (s.settings.monitorMode = .reset → s.supply < a.threshold →
        exec (.setSetting r) s = .next (answeredThenReset s1))) ∧
    (s.settings.monitorMode = .alarm → r.params = [0x0F, 0, 1] →
      let s1 : State := { s with settings := { s.settings with monitorMode := .reset }, unsaved := true }
      (s.monitor = .low → exec (.setSetting r) s = .next (answeredThenReset s1)) ∧
      (s.monitor = .ok → exec (.setSetting r) s = .next (s1.respond r 0x1F .ok))) ∧
    (s.settings.monitorMode = .reset → s.monitor = .ok → r.params = [0x0F, 0, 0] →
      exec (.setSetting r) s =
        .next ({ s with settings := { s.settings with monitorMode := .alarm }, unsaved := true }.respond r 0x1F .ok))

/-- SET_MODE: the mode in force, or in HOLD the resume mode, named again changes nothing; SURVEY with a job queued is
refused JOB_PENDING; SURVEY without one and LIVE change the mode, or in HOLD the resume mode. LIVE fills the queues, and
outside HOLD the new heads then start and the windows are granted (R49, R146). A queue is filled with REJOIN jobs for
the pending drops of its branch, lowest first, until it holds 6 (R34). -/
def Obligations.SetModeAndFill : Prop :=
  (∀ (s : State) (r : Request), s.Takes r → r.port = .uplink →
    (r.params = [1] → (s.mode = .live ∨ (s.mode = .hold ∧ s.resume = .live)) →
      exec (.setMode r) s = .next (s.respond r 0x20 .ok)) ∧
    (r.params = [0] → (s.mode = .survey ∨ (s.mode = .hold ∧ s.resume = .survey)) →
      exec (.setMode r) s = .next (s.respond r 0x20 .ok)) ∧
    (r.params = [0] → s.mode = .live → (∀ b, s.queue b = []) →
      exec (.setMode r) s = .next ({ s with mode := .survey, resume := .survey }.respond r 0x20 .ok)) ∧
    (r.params = [0] → s.mode = .hold → s.resume = .live → (∀ b, s.queue b = []) →
      exec (.setMode r) s = .next ({ s with resume := .survey }.respond r 0x20 .ok)) ∧
    (r.params = [0] → (s.mode = .live ∨ (s.mode = .hold ∧ s.resume = .live)) → (∃ b, s.queue b ≠ []) →
      exec (.setMode r) s = .next (s.respond r 0x20 ⟨.jobPending, []⟩)) ∧
    (r.params = [1] → s.mode = .survey → ∃ t, exec (.setMode r) s = .next t ∧ t.mode = .live ∧ t.resume = .live ∧
      t.port r.port = { s.port r.port with answer := .answering (some ⟨r.tag, 0x20, .ok, []⟩) } ∧
      ((∀ b, s.queue b = []) → (∀ d, (s.entry d).rejoinPending = false) → t.roster = s.roster ∧
        ∀ b, t.queue b = []) ∧
      (let filled : State := { s with mode := .live, resume := .live }.fillAll;
        let started := [s.lastServed + 1, s.lastServed + 2, s.lastServed + 3, s.lastServed].foldl
          (fun u b => u.startHead b) filled;
        t = (([0, 1, 2, 3] : List Branch).foldl (fun u b => u.grant b) started).respond r 0x20 .ok) ∧
      (∀ b, let taken := (s.pendingDrops b).take (6 - (s.queue b).length);
        (t.queue b).map Job.drop = (s.queue b).map Job.drop ++ taken ∧ ∀ d ∈ taken, (t.entry d).rejoinPending = false) ∧
      t = { s with
        mode := t.mode, resume := t.resume, branches := t.branches, lanes := t.lanes, roster := t.roster
        generators := t.generators, lastServed := t.lastServed, ports := t.ports }) ∧
    (r.params = [1] → s.mode = .hold → s.resume = .survey → exec (.setMode r) s =
      .next ({ s with resume := .live }.fillAll.respond r 0x20 .ok))) ∧
  (∀ (s : State) (b : Branch),
    let taken := (s.pendingDrops b).take (6 - (s.queue b).length)
    (s.fill b).queue b = s.queue b ++ taken.map (fun d => ⟨d, .rejoin, .waiting, .roster, 0⟩) ∧
    (∀ d, (s.fill b).entry d =
      if d ∈ taken then { s.entry d with rejoinPending := false } else s.entry d) ∧
    ∀ c, c ≠ b → (s.fill b).queue c = s.queue c) ∧
  (∀ s : State,
    let taken := fun b : Branch => (s.pendingDrops b).take (6 - (s.queue b).length)
    (∀ b, s.fillAll.queue b = s.queue b ++ (taken b).map fun d => ⟨d, .rejoin, .waiting, .roster, 0⟩) ∧
    (∀ d : Drop, s.fillAll.entry d =
      if d ∈ taken d.branch then { s.entry d with rejoinPending := false } else s.entry d) ∧
    s.fillAll = { s with branches := s.fillAll.branches, roster := s.fillAll.roster })

/-- RESTART: OK goes out on the Uplink and the command reset follows at once, or, while a write is in flight, the
request is held and nothing else changes (R172). -/
def Obligations.RestartResetsOrWaitsForWrite : Prop :=
  ∀ (s : State) (r : Request), s.Takes r → r.port = .uplink → r.params = [] →
    (s.controller = .idle → s.NoHolds → ∃ t, exec (.restart r) s = .next t ∧ t.startup = .scanning false ∧
      (t.port .uplink).sent = (s.port .uplink).sent ++ [⟨r.tag, 0x25, .ok, []⟩] ∧ (t.port .uplink).answer = .ready ∧
      (∀ p, (t.port p).causes = { (s.port p).causes with command := true }) ∧ t.slots = s.slots ∧
      t.header = s.header ∧ t.roster = Vector.replicate 64 .empty) ∧
    (∀ w, s.controller = .writing w →
      exec (.restart r) s = .next { s.setPort .uplink { s.port .uplink with answer := .answering none } with
        restart := some r.tag })

/-! ## Lanes and arrivals -/

/-- CLEAR_LANE clears the lane record and opens the lane; the event copies and the Unknown-Kind Table stand (R92). That
a burst in progress stands too, and is taken on where the receiver took it, is the model's choice (log entry 32).
FORGET_ARRIVAL is checked in the order STARTING, NOT_PERMITTED, BAD_PARAMETER for serial 0, NOT_FOUND for a serial in no
list, in every mode; otherwise it removes the arrival and answers OK, and nothing else changes (R104). -/
def Obligations.ClearLaneAndForgetArrival : Prop :=
  (∀ (s : State) (r : Request) (h : Bool), s.startup = .scanning h → (s.port r.port).answer = .ready →
    (s.port r.port).ignoring = false → r.inTime = true → exec (.forgetArrival r) s = .next (s.respond r 0x24 ⟨.starting, []⟩)) ∧
  (∀ (s : State) (r : Request), s.Takes r →
    (r.port ≠ .uplink → exec (.forgetArrival r) s = .next (s.respond r 0x24 ⟨.notPermitted, []⟩)) ∧
    (r.port = .uplink → r.params = [0, 0, 0, 0, 0, 0] →
      exec (.forgetArrival r) s = .next (s.respond r 0x24 ⟨.badParameter, []⟩))) ∧
  (∀ (s : State) (r : Request) (b : Branch), s.Takes r → r.port = .uplink → r.params = [byteOf b.val] →
    exec (.clearLane r) s = .next ((s.setLane b { s.lane b with flags := 0, count := 0, seen := 0, closed := false
      }).respond r 0x22 .ok)) ∧
  (∀ (s : State) (r : Request) (n : Serial), s.Takes r → r.port = .uplink → n ≠ 0 → r.params = beBytes 6 n.toNat →
    ((∃ b, ∃ a ∈ (s.arrivalsOf b).items, a.serial = n) → ∃ t, exec (.forgetArrival r) s = .next t ∧
      t = { s with arrivals := t.arrivals }.respond r 0x24 .ok ∧
      ∀ b, t.arrivalsOf b = { s.arrivalsOf b with items := (s.arrivalsOf b).items.filter fun a => a.serial ≠ n }) ∧
    ((∀ b, ∀ a ∈ (s.arrivalsOf b).items, a.serial ≠ n) →
      exec (.forgetArrival r) s = .next (s.respond r 0x24 ⟨.notFound, []⟩)))

/-- CLEAR_UNKNOWN_KINDS empties the table from the Uplink, READ_UNKNOWN_KINDS shows it to every port and changes
nothing; both are answered STARTING during the scan, and an offer after the clear fills entry 0 (R95). That the
overflow flag is bit 0 of the last byte shown is read from the spec (log entry 31). -/
def Obligations.UnknownKindRequests : Prop :=
  ∀ (s : State) (r : Request), r.params = [] → (s.port r.port).answer = .ready → (s.port r.port).ignoring = false →
    r.inTime = true → (∀ h, s.startup = .scanning h →
      exec (.clearUnknownKinds r) s = .next (s.respond r 0x23 ⟨.starting, []⟩) ∧
      exec (.readUnknownKinds r) s = .next (s.respond r 0x07 ⟨.starting, []⟩)) ∧
    (s.startup = .running →
      (r.port ≠ .uplink → exec (.clearUnknownKinds r) s = .next (s.respond r 0x23 ⟨.notPermitted, []⟩)) ∧
      (r.port = .uplink → ∃ t, exec (.clearUnknownKinds r) s = .next t ∧
        t = { s with unknown := t.unknown }.respond r 0x23 .ok ∧ t.unknown.overflow = false ∧
        (∀ i : Fin 4, t.unknown.entries[i] = none) ∧
        ∀ (b : Branch) (k : BitVec 4), (t.offerUnknown b k).unknown.entries[0] = some (b, k)) ∧
      exec (.readUnknownKinds r) s = .next (s.respond r 0x07 ⟨.ok,
        [unknownByte s.unknown.entries[0], unknownByte s.unknown.entries[1], unknownByte s.unknown.entries[2],
          unknownByte s.unknown.entries[3], byteOf s.unknown.overflow.toNat]⟩))

/-! ## Bursts -/

/-- Where the header symbols hold kind, tag, serial and length, with the unused bit ignored, and where a payload holds
its level and observation (R77, R184). The verdict on a complete preamble (R80). What checks 1 to 4 find: SHORT for a
preamble or header not received whole, HEADER_BAD, SHORT, OVERRUN or CHECK_BAD for a burst with a good preamble and an
error-free header, and nothing for the burst as sent, with up to two symbols of grace; that a burst which ends at the
second of them is good is read from the spec (log entry 25). HEADER_FIXED beside the later faults for a corrected
header, and HEADER_BAD alone for a bad one or a double error; PREAMBLE_FIXED beside the later faults, and PREAMBLE_LOST
alone (R79 to R84). -/
def Obligations.BurstChecksFindTheirFaults : Prop :=
  (∀ (v : HeaderVerdict) (y9 y10 y11 y12 y13 y14 y15 y16 : Byte),
    let h : Header := ⟨v, y9 ++ y10 ++ y11 ++ y12 ++ y13 ++ y14 ++ y15 ++ y16⟩
    h.kind = y9.extractLsb' 4 4 ∧ h.tag = y9.extractLsb' 1 3 ∧
    h.serial = y10 ++ y11 ++ y12 ++ y13 ++ y14 ++ y15 ∧ h.length = y16) ∧
  (∀ (v : HeaderVerdict) (kind : BitVec 4) (tag : BitVec 3) (n : Serial) (l : Byte),
    let h : Header := ⟨v, headerSymbols kind tag n l⟩
    h.kind = kind ∧ h.tag = tag ∧ h.serial = n ∧ h.length = l) ∧
  (∀ l hi lo : Byte, payloadLevel [l, hi, lo] = min 127 l.toNat ∧
    payloadObservation [l, hi, lo] = hi.extractLsb' 0 4 ++ lo) ∧
  (∀ errors : List Bool, errors.length = 8 →
    (errors.count true = 0 → ∀ tol, judgePreamble tol errors = .good) ∧
    (errors.count true = 1 → judgePreamble .lenient errors = .fixed ∧
      ((errors.drop 6).count true = 0 → judgePreamble .strict errors = .fixed) ∧
      ((errors.drop 6).count true = 1 → judgePreamble .strict errors = .lost)) ∧
    (2 ≤ errors.count true → ∀ tol, judgePreamble tol errors = .lost)) ∧
  (∀ (tol : Tolerance) (kind : BitVec 4) (tag : BitVec 3) (n : Serial) (payload body : List Byte) (l : Byte),
    let read := fun v : HeaderVerdict => some (Header.mk v (headerSymbols kind tag n l))
    let x : Burst := { cleanBurst kind tag n payload with header := read .noError, body := body }
    let bad := n = 0 ∨ 16 < l.toNat ∨ ∃ k, burstKindOf kind = some k ∧ l.toNat ≠ k.payloadLength
    (bad → inspect tol x = ⟨[.headerBad], none⟩ ∧
      inspect tol { x with header := read .corrected } = ⟨[.headerBad], none⟩) ∧
    inspect tol { x with header := read .doubleError } = ⟨[.headerBad], none⟩ ∧
    (¬ bad → inspect tol { x with header := read .corrected } =
      ⟨.headerFixed :: (inspect tol x).faults, (inspect tol x).intact.map fun p => (⟨.corrected, p.1.symbols⟩, p.2)⟩) ∧
    (¬ bad → body.length < l.toNat + 2 → inspect tol x = ⟨[.short], none⟩) ∧
    (¬ bad → l.toNat + 4 < body.length → inspect tol x = ⟨[.overrun], none⟩) ∧
    (∀ grace : List Byte, ¬ bad → l.toNat = payload.length → grace.length ≤ 2 →
      (body = payload ++ beBytes 2 (crc16 payload).toNat ++ grace →
        inspect tol x = ⟨[], some (⟨.noError, headerSymbols kind tag n l⟩, payload)⟩) ∧
      ∀ c : BitVec 16, c ≠ crc16 payload → body = payload ++ beBytes 2 c.toNat ++ grace →
        inspect tol x = ⟨[.checkBad], none⟩)) ∧
  (∀ (tol : Tolerance) (x : Burst),
    (x.preambleErrors.length < 8 → inspect tol x = ⟨[.short], none⟩) ∧
    (x.preambleErrors.length = 8 →
      let good := inspect tol { x with preambleErrors := List.replicate 8 false }
      (judgePreamble tol x.preambleErrors = .good → x.header = none → inspect tol x = ⟨[.short], none⟩) ∧
      (judgePreamble tol x.preambleErrors = .fixed →
        inspect tol x = ⟨.preambleFixed :: good.faults, good.intact⟩) ∧
      (judgePreamble tol x.preambleErrors = .lost → inspect tol x = ⟨[.preambleLost], none⟩)))

/-- A burst that checks 1 to 4 find at fault is discarded, given whole or in parts: the faults of the checks that its
part allows, and that no earlier part made, are recorded under the record set in force and raise LANE_FAULT, a lost
preamble closes the lane under recovery CLOSE, and nothing but the lane record, the lane's burst in progress and the
event copies changes (R79 to R84, R90, R91). The tolerance is that in force when the preamble began; a part given again
finds nothing. That a burst is one command or one for each of its parts is the model's choice, and which tolerance acts
is read from the spec (log entry 11). A burst of which a part comes before the part runs or on a CLOSED lane, one that a
reset has met, and one whose preamble began while the lane took no bursts, is followed to its end and changes nothing
else, also where its end comes on an open lane of a running part (R78, R91, R92). A known kind outside its window is
STRAY, and a PRESENCE whose serial no ACTIVE, SILENT or admitting entry of the branch holds is UNBOUND_PRESENCE; either
is discarded with its fault alone (R86, R87). That CLOSED_LANE_BURST is discarded so whatever the lane's present state
is read from the spec (log entry 12). -/
def Obligations.DiscardedBurstsOnlyMarkTheLane : Prop :=
  (∀ (s : State) (b : Branch) (kind : BitVec 4) (x : Burst) (r : Reception), s.OpenLane b → x.inTime = true →
    x.upTo ≠ .begun → r = (s.lane b).rx.getD ⟨s.settings.tolerance, .begun, (s.branch b).rangeCounter, true⟩ →
    r.taken = true → r.upTo.rank < x.upTo.rank →
    (x.upTo = .ended → (inspect r.tolerance x).intact = none) →
    let foundAt := fun k : FaultKind => match k with
      | .preambleFixed | .preambleLost => BurstPart.preamble
      | .headerFixed | .headerBad => .header
      | .overrun => .grace
      | _ => .ended
    let found := (inspect r.tolerance x).faults.filter fun k =>
      r.upTo.rank < (foundAt k).rank ∧ (foundAt k).rank ≤ x.upTo.rank
    let recorded := found.filter fun k => s.settings.record &&& k.bit ≠ 0
    let closes := FaultKind.preambleLost ∈ found ∧ s.settings.recovery = .close
    ∃ t, exec (.badBurst b kind x) s = .next t ∧
      t = { s with lanes := t.lanes, ports := t.ports } ∧ (∀ c, c ≠ b → t.lane c = s.lane c) ∧
      (t.lane b).calls = (s.lane b).calls ∧ (t.lane b).seen = (s.lane b).seen ∧
      (t.lane b).rx = (if x.upTo = .ended then none else some { r with upTo := x.upTo }) ∧
      (∀ k, (t.lane b).flags &&& k.bit ≠ 0 ↔ (s.lane b).flags &&& k.bit ≠ 0 ∨ k ∈ recorded) ∧
      (recorded = [] → (t.lane b).count = (s.lane b).count) ∧
      (recorded ≠ [] → (t.lane b).count = min 255 ((s.lane b).count + recorded.length)) ∧
      ((t.lane b).closed = true ↔ closes) ∧
      (recorded ≠ [] ∨ closes → ∀ p, t.port p = (s.port p).raise .laneFault) ∧
      (recorded = [] → ¬ closes → t.ports = s.ports)) ∧
  (∀ (s : State) (b : Branch) (kind : BitVec 4) (x : Burst),
    let new : Reception := ⟨s.settings.tolerance, .begun, (s.branch b).rangeCounter, true⟩
    let r := if x.upTo = .begun then new else (s.lane b).rx.getD new
    let followed := s.setLane b { s.lane b with
      rx := if x.upTo = .ended then none
        else some { r with taken := false, upTo := if r.upTo.rank < x.upTo.rank then x.upTo else r.upTo } }
    exec (.closedLaneBurst b kind x) s = .next followed ∧
    ∀ row ∈ [Instr.hello b, .matchReply b, .rangeReply b, .presence b, .unknownKindBurst b kind, .badBurst b kind],
      (x.inTime = false ∨ s.startup ≠ .running ∨ (s.lane b).closed = true ∨ r.taken = false →
        exec (row x) s = .next followed) ∧
      (s.OpenLane b → x.inTime = true →
        (x.upTo = .begun → exec (row x) s = .next (s.setLane b { s.lane b with rx := some new })) ∧
        ∀ q, (s.lane b).rx = some q → q.taken = true → x.upTo ≠ .begun → x.upTo ≠ .ended →
          x.upTo.rank ≤ q.upTo.rank → exec (row x) s = .next s)) ∧
  (∀ (s : State) (b : Branch) (tag : BitVec 3) (n : Serial) (raw : Nat) (obs : Steps),
    s.Listening b → n ≠ 0 →
    ((s.branch b).window ≠ .openCall →
      exec (.hello b (cleanBurst 1 tag n (payloadOf raw obs))) s = .next (s.reportFault b .stray)) ∧
    ((s.branch b).window ≠ .matchListen →
      exec (.matchReply b (cleanBurst 2 tag n (payloadOf raw obs))) s = .next (s.reportFault b .stray)) ∧
    ((s.branch b).window ≠ .rangeListen →
      exec (.rangeReply b (cleanBurst 3 tag n [])) s = .next (s.reportFault b .stray)) ∧
    ((∀ d : Drop, d.branch = b → (s.entry d).serial = some n →
        (s.entry d).state ≠ .active ∧ (s.entry d).state ≠ .silent ∧
        ((s.entry d).state = .ranging → ∀ j, s.jobOf d = some j → j.stage ≠ .admitting)) →
      exec (.presence b (cleanBurst 4 tag n (payloadOf raw obs))) s =
        .next (s.reportFault b .unboundPresence)))

/-- A burst of unknown kind that has ended and passed checks 1 to 4, after the repairs those checks report and no
earlier part of it has reported (log entry 11), reports UNKNOWN_KIND on its lane and is offered to the Unknown-Kind
Table, whatever the record set; nothing else changes (R85). The Unknown-Kind Table takes an offer: a kind it holds
changes nothing, a new kind takes the lowest-numbered empty entry, and one that finds the table full sets the overflow
flag; UNKNOWN_KIND is raised exactly when the table changes (R94). A recorded fault sets its flag, adds one to the count
up to 255 and raises LANE_FAULT; one outside the record set does nothing (R90). -/
def Obligations.UnknownKindIsReportedAndOffered : Prop :=
  (∀ (s : State) (b : Branch) (kind : BitVec 4), s.OpenLane b → burstKindOf kind = none →
    (∀ (x : Burst) (r : Reception), x.inTime = true → x.upTo = .ended → x.kind? = some kind →
      r = (s.lane b).rx.getD ⟨s.settings.tolerance, .begun, (s.branch b).rangeCounter, true⟩ →
      r.taken = true → (inspect r.tolerance x).intact ≠ none →
      let found := foundBetween r.upTo .ended (inspect r.tolerance x).faults
      exec (.unknownKindBurst b kind x) s = .next
        ((((s.setLane b { s.lane b with rx := none }).reportFound b found).reportFault b .unknownKind).offerUnknown b
          kind)) ∧
    ∀ (tag : BitVec 3) (n : Serial) (payload : List Byte), (s.lane b).rx = none → n ≠ 0 → payload.length ≤ 16 →
      exec (.unknownKindBurst b kind (cleanBurst kind tag n payload)) s =
        .next ((s.reportFault b .unknownKind).offerUnknown b kind)) ∧
  (∀ (s : State) (b : Branch) (kind : BitVec 4),
    ((∃ i : Fin 4, s.unknown.entries[i] = some (b, kind)) → s.offerUnknown b kind = s) ∧
    ((∀ i : Fin 4, s.unknown.entries[i] ≠ some (b, kind)) →
      (∀ i : Fin 4, s.unknown.entries[i] = none → (∀ j, j < i → s.unknown.entries[j] ≠ none) →
        s.offerUnknown b kind =
          { s with unknown := ⟨s.unknown.entries.set i (some (b, kind)), s.unknown.overflow⟩ }.raise .unknownKind) ∧
      ((∀ i : Fin 4, s.unknown.entries[i] ≠ none) →
        (s.unknown.overflow = true → s.offerUnknown b kind = s) ∧
        (s.unknown.overflow = false →
          s.offerUnknown b kind = { s with unknown := ⟨s.unknown.entries, true⟩ }.raise .unknownKind)))) ∧
  (∀ (s : State) (b : Branch) (k : FaultKind),
    (s.settings.record &&& k.bit ≠ 0 → s.reportFault b k =
      (s.setLane b { s.lane b with flags := (s.lane b).flags ||| k.bit, count := min 255 ((s.lane b).count + 1)
        }).raise .laneFault) ∧
    (s.settings.record &&& k.bit = 0 → s.reportFault b k = s))

/-- A HELLO of a serial that no entry and no list holds, from a terminal without a tag that saw no light, in an open
call: appended at the tail with ARRIVAL, or missed with ARRIVALS_FULL (R100). A hello from a listed unbound serial
refreshes its arrival in place: age 0, one more hello, the values it carries, the provider-off flag judged again;
position, missed count and events stand (R99). A hello from an unbound serial not listed on its branch takes the serial
from the list of another branch, whose missed count and order stand, and is then appended here afresh or missed (R100).
-/
def Obligations.HelloAddsOrRefreshesArrival : Prop :=
  (∀ (s : State) (b : Branch) (n : Serial) (raw : Nat) (obs : Steps), s.Listening b →
    n ≠ 0 → raw ≤ 127 → (s.branch b).window = .openCall → (∀ d, (s.entry d).serial ≠ some n) →
    (∀ c, ∀ a ∈ (s.arrivalsOf c).items, a.serial ≠ n) →
    (∀ g, (s.gen g).attached.isSome = true → (s.gen g).observed ≠ obs) →
    ((s.arrivalsOf b).items.length < 8 →
      exec (.hello b (cleanBurst 1 0 n (payloadOf raw obs))) s = .next ((s.setArrivals b { s.arrivalsOf b with
        items := (s.arrivalsOf b).items ++ [⟨n, 0, raw, if obs = 0 then none else some obs, 0, 1, false⟩]
        }).raise .arrival)) ∧
    (8 ≤ (s.arrivalsOf b).items.length →
      exec (.hello b (cleanBurst 1 0 n (payloadOf raw obs))) s = .next ((s.setArrivals b { s.arrivalsOf b with
        missed := min 255 ((s.arrivalsOf b).missed + 1) }).raise .arrivalsFull))) ∧
  (∀ (s : State) (b : Branch) (r : Report) (pre post : List Arrival) (a : Arrival),
    (∀ d, (s.entry d).serial ≠ some r.serial) → (s.arrivalsOf b).items = pre ++ a :: post → a.serial = r.serial →
    (∀ x ∈ pre ++ post, x.serial ≠ r.serial) →
    s.takeHello b r = s.setArrivals b { s.arrivalsOf b with
      items := pre ++ ⟨a.serial, r.tag, r.rawLevel, if r.observation = 0 then none else some r.observation, 0,
        min 255 (a.hellos + 1),
        decide (r.tag ≠ 0 ∧ s.settings.providers &&& (1#8 <<< r.tag.toNat) = 0)⟩ :: post }) ∧
  (∀ (s : State) (b : Branch) (r : Report), (∀ d, (s.entry d).serial ≠ some r.serial) →
    (∀ a ∈ (s.arrivalsOf b).items, a.serial ≠ r.serial) →
    let t := s.takeHello b r
    let l := s.arrivalsOf b
    (∀ c, c ≠ b → t.arrivalsOf c = { s.arrivalsOf c with
      items := (s.arrivalsOf c).items.filter fun a => a.serial ≠ r.serial }) ∧
    (l.items.length < 8 → t = { s with arrivals := t.arrivals }.raise .arrival ∧
      t.arrivalsOf b = { l with items := l.items ++ [⟨r.serial, r.tag, r.rawLevel,
        if r.observation = 0 then none else some r.observation, 0, 1,
        decide (r.tag ≠ 0 ∧ s.settings.providers &&& (1#8 <<< r.tag.toNat) = 0)⟩] }) ∧
    (8 ≤ l.items.length → t = { s with arrivals := t.arrivals }.raise .arrivalsFull ∧
      t.arrivalsOf b = { l with missed := min 255 (l.missed + 1) }))

/-- A hello from a bound serial on its own branch: ACTIVE and SILENT become BOUND and ask for a rejoin, BOUND without
a job asks for one, RANGING is abandoned, and a queued REJOIN job changes nothing (R101). A rejoin request: a REJOIN
job at the tail where intake is open and the queue has room, otherwise the pending flag with REJOIN_WAITING, which is
not raised for a flag already set (R32). An abandoned job leaves its queue with the entry BOUND and last result HELD,
JOB_FAILED is raised, and the drop's REJOIN job joins at the tail in place of a refill: the pending flags of other drops
stand (R33, R68). -/
def Obligations.HelloOfBoundTerminalAsksForRejoin : Prop :=
  (∀ (s : State) (d : Drop) (r : Report), s.holderOf r.serial = some d →
    ((s.entry d).state = .active ∨ (s.entry d).state = .silent →
      s.takeHello d.branch r = (s.setEntry d (s.entry d).boundAgain).rejoinRequest d) ∧
    ((s.entry d).state = .bound → s.jobOf d = none → s.takeHello d.branch r = s.rejoinRequest d) ∧
    ((s.entry d).state = .bound → s.jobOf d ≠ none → s.takeHello d.branch r = s) ∧
    (∀ j, (s.entry d).state = .ranging → s.jobOf d = some j → s.takeHello d.branch r = s.abandonJob j)) ∧
  (∀ (s : State) (d : Drop),
    (s.intakeOpen = true → (s.queue d.branch).length < 6 →
      s.rejoinRequest d = (s.appendJob d .rejoin .roster).proceed d.branch) ∧
    (s.intakeOpen = false ∨ 6 ≤ (s.queue d.branch).length →
      ((s.entry d).rejoinPending = true → s.rejoinRequest d = s) ∧
      ((s.entry d).rejoinPending = false → s.rejoinRequest d =
        (s.setEntry d { s.entry d with rejoinPending := true }).raise .rejoinWaiting))) ∧
  (∀ (s : State) (j : Job), s.JobInv → s.jobOf j.drop = some j → (s.entry j.drop).state = .ranging →
    let b := j.drop.branch
    let u := (s.dropJob j { (s.entry j.drop).boundAgain with lastResult := .held }).raise .jobFailed
    s.abandonJob j = (u.setBranch b { u.branch b with
      queue := u.queue b ++ [⟨j.drop, .rejoin, .waiting, .roster, 0⟩] }).proceed b ∧
    u.queue b = (s.queue b).filter (fun k => k.drop ≠ j.drop) ∧ (u.queue b).length + 1 = (s.queue b).length ∧
    u.entry j.drop = { (s.entry j.drop).boundAgain with lastResult := .held } ∧
    (∀ d, d ≠ j.drop → u.entry d = s.entry d) ∧
    (∀ p, u.port p = (s.port p).raise .jobFailed) ∧
    ∀ d, d ≠ j.drop → ((s.abandonJob j).entry d).rejoinPending = (s.entry d).rejoinPending)

/-- A hello from a serial bound on another branch blocks the entry MOVED, ends its job with JOB_FAILED, raises MOVED,
and is then taken as an arrival: appended to the hello's branch with ARRIVAL, or missed there with ARRIVALS_FULL, while
the other lists stand (R100, R102). -/
def Obligations.HelloOnOtherBranchMovesEntry : Prop :=
  ∀ (s : State) (b : Branch) (d : Drop) (r : Report), s.JobInv → s.SerialInv → (s.entry d).serial = some r.serial →
    d.branch ≠ b →
    let t := s.takeHello b r
    t.entry d = { (s.entry d).unbound .blocked with lastResult := .moved } ∧ t.jobOf d = none ∧
    (∀ p, (t.port p).events &&& Event.moved.bit ≠ 0) ∧
    (s.jobOf d ≠ none → ∀ p, (t.port p).events &&& Event.jobFailed.bit ≠ 0) ∧
    (∀ p, (t.port p).events &&& (Event.arrival.bit ||| Event.arrivalsFull.bit) ≠ 0) ∧
    (∀ c, c ≠ b → t.arrivalsOf c = s.arrivalsOf c) ∧
    (let l := s.arrivalsOf b;
      (l.items.length < 8 → (∀ p, (t.port p).events &&& Event.arrival.bit ≠ 0) ∧
        t.arrivalsOf b = { l with items := l.items ++ [⟨r.serial, r.tag, r.rawLevel,
          if r.observation = 0 then none else some r.observation, 0, 1,
          decide (r.tag ≠ 0 ∧ s.settings.providers &&& (1#8 <<< r.tag.toNat) = 0)⟩] }) ∧
      (8 ≤ l.items.length → (∀ p, (t.port p).events &&& Event.arrivalsFull.bit ≠ 0) ∧
        t.arrivalsOf b = { l with missed := min 255 (l.missed + 1) })) ∧
    t = { s with
      branches := t.branches, lanes := t.lanes, roster := t.roster, generators := t.generators
      lastServed := t.lastServed, ports := t.ports, arrivals := t.arrivals }

/-! ## Binding, ranging and admission -/

/-- A MATCH_REPLY with the binding code from a listed serial that no other entry holds, of an untagged terminal and
inside the accept window, binds the terminal: serial and last level, RANGING, the job in RANGE, the arrival gone, the
generator of the binding detached and MATCH_LISTEN running on (R55, R59). -/
def Obligations.GoodMatchReplyBindsTerminal : Prop :=
  ∀ (s : State) (b : Branch) (j : Job) (js : List Job) (n : Serial) (raw : Nat),
    s.Listening b → n ≠ 0 → raw ≤ 127 → (s.branch b).window = .matchListen → (s.branch b).decided = none →
    s.queue b = j :: js → j.stage = .matching → (s.entry j.drop).state = .binding →
    (∀ d, d ≠ j.drop → (s.entry d).serial ≠ some n) → (∃ a ∈ (s.arrivalsOf b).items, a.serial = n) →
    s.settings.acceptLow ≤ s.levelOf j.drop raw → s.levelOf j.drop raw ≤ s.settings.acceptHigh →
    ∃ t, exec (.matchReply b (cleanBurst 2 0 n (payloadOf raw (bindingCode b)))) s = .next t ∧
      t.entry j.drop = { s.entry j.drop with
        state := .ranging, serial := some n, lastLevel := some (s.levelOf j.drop raw), rejoinPending := false } ∧
      (∀ d, d ≠ j.drop → t.entry d = s.entry d) ∧
      t.queue b = { j with stage := .range, attempts := 0 } :: js ∧
      (t.branch b).window = .matchListen ∧ (t.branch b).decided = some (n, .succeeded) ∧
      (∀ c, t.arrivalsOf c = { s.arrivalsOf c with items := (s.arrivalsOf c).items.filter fun a => a.serial ≠ n }) ∧
      (∀ g d, (t.gen g).attached ≠ some (d, .binding b)) ∧
      t = { s with
        roster := t.roster, branches := t.branches, arrivals := t.arrivals, generators := t.generators
        lastServed := t.lastServed }

/-- The judgement of a match reply takes the first of its tests that holds (R55). A refused reply blocks the entry with
its reason and the reply's serial, and ends the job with JOB_FAILED; an unheard reply decides the attempt and is
reported. A good reply, whatever its tag, decides the attempt and binds the terminal: serial and last level, RANGING,
the job in RANGE with attempt count 0, its arrival gone from every list, and the binding's generator detached and
offered, while MATCH_LISTEN runs on (R59). A reply after a decision, whatever the queue holds by then, is ignored when
its serial is the decided one, and is DOUBLE_REPLY otherwise (R54, R56, R57). -/
def Obligations.MatchRepliesAreJudgedInOrder : Prop :=
  (∀ (s : State) (b : Branch) (d : Drop) (r : Report), s.judgeMatch b d r =
    if r.observation ≠ bindingCode b then .ignored
    else if ∃ o, o ≠ d ∧ (s.entry o).serial = some r.serial then .crossed
    else if ∀ a ∈ (s.arrivalsOf b).items, a.serial ≠ r.serial then .unheard
    else if r.tag ≠ 0 ∧ s.settings.providers &&& (1#8 <<< r.tag.toNat) = 0 then .providerOff
    else if r.tag ≠ 0 ∧ r.tag.toNat ≠ (s.entry d).provider then .providerMismatch
    else if s.levelOf d r.rawLevel < s.settings.acceptLow then .levelLow
    else if s.settings.acceptHigh < s.levelOf d r.rawLevel then .levelHigh
    else .success) ∧
  (∀ (s : State) (b : Branch) (j : Job) (js : List Job) (r : Report), s.queue b = j :: js → j.stage = .matching →
    (s.entry j.drop).state = .binding →
    ((s.branch b).decided = none →
      (∀ v why, (v, why) ∈ [(MatchVerdict.crossed, LastResult.crossed), (.providerOff, .providerOff),
          (.providerMismatch, .providerMismatch)] → s.judgeMatch b j.drop r = v →
        s.takeMatchReply b r = s.endJob j { (s.entry j.drop).unbound .blocked with
          lastSerial := some r.serial, lastResult := why } (some .jobFailed)) ∧
      (∀ v why, (v, why) ∈ [(MatchVerdict.levelLow, LastResult.levelLow), (.levelHigh, .levelHigh)] →
        s.judgeMatch b j.drop r = v →
        s.takeMatchReply b r = s.endJob j { (s.entry j.drop).unbound .blocked with
          lastSerial := some r.serial, lastResult := why, lastLevel := some (s.levelOf j.drop r.rawLevel) }
          (some .jobFailed)) ∧
      (s.judgeMatch b j.drop r = .unheard → s.takeMatchReply b r =
        (s.setBranch b { s.branch b with decided := some (r.serial, .unheard) }).reportFault b .unheard) ∧
      (s.judgeMatch b j.drop r = .ignored → s.takeMatchReply b r = s) ∧
      (s.judgeMatch b j.drop r = .success → ∃ u : State,
        u = { (s.setBranch b { s.branch b with
          decided := some (r.serial, .succeeded), queue := { j with stage := .range, attempts := 0 } :: js }).setEntry
            j.drop { s.entry j.drop with
              state := .ranging, serial := some r.serial, lastLevel := some (s.levelOf j.drop r.rawLevel)
              rejoinPending := false } with arrivals := u.arrivals } ∧
        (∀ c, u.arrivalsOf c = { s.arrivalsOf c with
          items := (s.arrivalsOf c).items.filter fun a => a.serial ≠ r.serial }) ∧
        s.takeMatchReply b r = u.detachAndOffer (fun g => g.ownedBy (.binding b)) ∧
        ((s.takeMatchReply b r).branch b).window = (s.branch b).window ∧
        ((s.takeMatchReply b r).branch b).listenMs = (s.branch b).listenMs))) ∧
  ∀ (s : State) (b : Branch) (r : Report) (n : Serial) (dec : Decision), (s.branch b).decided = some (n, dec) →
    (r.serial = n → s.takeMatchReply b r = s) ∧ (r.serial ≠ n → s.takeMatchReply b r = s.reportFault b .doubleReply)

/-- A RANGE_REPLY of the entry's serial within the span: round trip and delay are set, the window ends, ADMIT goes
out, and the job waits in ADMIT for 3 s; the window may then go to a due open call (R61, R62, R64). A round trip
beyond the span, or a counter whose overflow mark was set, ends the job RANGE_FAR with the entry BLOCKED; a reply of
another serial, or one begun before the RANGE_CALL, is ignored (R61, R62). The round trip is the branch's range counter
as it stood when the reply's preamble began (R61, R77): for a reply given whole, at its one command; for one given in
parts, as the receiver read it at the first, whatever the counter has come to since. That the overflow mark is read with
the counter is the model's reading (log entry 10). -/
def Obligations.RangeReplyAdmitsOrBlocks : Prop :=
  (∀ (s : State) (b : Branch) (j : Job) (js : List Job) (n : Serial) (c : RangeCounter), s.OpenLane b → n ≠ 0 →
    (s.branch b).window = .rangeListen → s.queue b = j :: js → j.stage = .range →
    (s.entry j.drop).serial = some n →
    ((s.lane b).rx = none ∧ (s.branch b).rangeCounter = some c ∨
      ∃ r, (s.lane b).rx = some r ∧ r.taken = true ∧ r.counter = some c) →
    let u := s.setLane b { s.lane b with rx := none }
    (c.overflow = false → c.count ≤ s.settings.span →
      exec (.rangeReply b (cleanBurst 3 0 n [])) s =
        .next ((((u.setBranch b { s.branch b with
          window := .none, listenMs := none, decided := none, rangeCounter := none, admitWait := some 3000
          queue := { j with stage := .admitting } :: js }).setEntry j.drop { s.entry j.drop with
            roundTrip := some c.count, delay := some (s.settings.span - c.count) }).sendCall b
              (.admitCall n (s.settings.span - c.count) (s.entry j.drop).provider)).grant b)) ∧
    ((s.entry j.drop).state = .ranging → (c.overflow = true ∨ s.settings.span < c.count) →
      exec (.rangeReply b (cleanBurst 3 0 n [])) s =
        .next (u.endJob j { (s.entry j.drop).unbound .blocked with lastResult := .rangeFar } (some .jobFailed)))) ∧
  (∀ (s : State) (b : Branch) (n : Serial), s.OpenLane b → n ≠ 0 → (s.branch b).window = .rangeListen →
    ((∃ r, (s.lane b).rx = some r ∧ r.counter = none) ∨
      ∃ j js, s.queue b = j :: js ∧ (s.entry j.drop).serial ≠ some n) →
    exec (.rangeReply b (cleanBurst 3 0 n [])) s = .next (s.setLane b { s.lane b with rx := none })) ∧
  (∀ (s : State) (b : Branch) (x : Burst) (c : RangeCounter), s.OpenLane b → x.inTime = true → x.upTo = .begun →
    (s.branch b).rangeCounter = some c → ∃ t, exec (.rangeReply b x) s = .next t ∧
      ((t.lane b).rx.bind Reception.counter) = some c ∧
      ∀ u, exec (.rangeCounterOverflow b) t = .next u → ((u.lane b).rx.bind Reception.counter) = some c)

/-- The first PRESENCE burst of an admitting entry completes the activation: ACTIVE with a fresh record and the level
judged, and the job ends DONE with JOB_DONE; a level outside the accept window raises LEVEL_DRIFT where the drift flag
was clear, and no other event is raised (R65, R126, R129). -/
def Obligations.FirstPresenceCompletesAdmission : Prop :=
  ∀ (s : State) (d : Drop) (j : Job) (raw : Nat), s.JobInv → s.jobOf d = some j → j.stage = .admitting →
    let t := s.takePresence d raw
    let level := s.levelOf d raw
    t.jobOf d = none ∧
    t.entry d = { s.entry d with
      state := .active, rejoinPending := false, lastResult := .done, lastLevel := some level
      levelDrift := decide (level < s.settings.acceptLow ∨ s.settings.acceptHigh < level)
      presence := some ⟨0, 0, s.settings.divisor, s.settings.silenceLimit, false, false⟩ } ∧
    (∀ p, t.port p = { s.port p with events := (s.port p).events ||| Event.jobDone.bit |||
      (if (level < s.settings.acceptLow ∨ s.settings.acceptHigh < level) ∧ (s.entry d).levelDrift = false then
        Event.levelDrift.bit else 0) }) ∧
    t = { s with
      branches := t.branches, lanes := t.lanes, roster := t.roster, generators := t.generators
      lastServed := t.lastServed, ports := t.ports }

/-! ## Branch timers and the trace frame -/

/-- The open-call timer: at its expiry a call is due and the window is granted; at the end of an open call the window is
NONE and the timer starts again for a full period (R37, R38). That OPEN_CALL_DUE with the timer stopped, and
OPEN_CALL_END outside OPEN_CALL, change nothing is the model's choice (log entry 7). -/
def Obligations.OpenCallTimerAndListening : Prop :=
  ∀ (s : State) (b : Branch), s.startup = .running →
    (∀ n, (s.branch b).openTimer = some n → exec (.openCallDue b) s =
      .next ((s.setBranch b { s.branch b with openDue := true, openTimer := none }).grant b)) ∧
    ((s.branch b).openTimer = none → exec (.openCallDue b) s = .next s) ∧
    ((s.branch b).window = .openCall → exec (.openCallEnd b) s = .next ((s.setBranch b { s.branch b with
      window := .none, listenMs := none, decided := none, rangeCounter := none
      openTimer := some s.settings.openPeriod }).grant b)) ∧
    ((s.branch b).window ≠ .openCall → exec (.openCallEnd b) s = .next s)

/-- The end of a MATCH_LISTEN: without success the job tries again after the first two attempts and ends NO_ANSWER,
PLANNED, after the third; after a success the window goes on to the job in RANGE or a due open call (R58, R59). A
MATCH_LISTEN that outlives its job ends in the same way, with an empty queue or a new head in any stage but MATCH: the
window is NONE and is granted again (R45, R51). The end of a RANGE_LISTEN at 200 ms: one retry, and then the job ends
NO_ANSWER with the entry BOUND (R63). The range counter stays at 4095 with its overflow mark once it would pass it
(R60); that RANGE_COUNTER_OVERFLOW brings it there from any count is the model's choice (log entry 34). The expiry of
the admit wait sends a WITHDRAW call and ends the job NO_PRESENCE with the entry BOUND (R66). -/
def Obligations.ListeningEndsRetryOrEndJob : Prop :=
  (∀ (s : State) (b : Branch) (j : Job) (js : List Job), s.startup = .running → (s.branch b).window = .matchListen →
    s.queue b = j :: js →
    let freed := s.setBranch b { s.branch b with window := .none, listenMs := none, decided := none, rangeCounter := none }
    (j.stage = .matching → (∀ n, (s.branch b).decided ≠ some (n, .succeeded)) → 3 ≤ j.attempts →
      (s.entry j.drop).state = .binding → exec (.matchListenEnd b) s =
        .next (freed.endJob j { (s.entry j.drop).unbound .planned with lastResult := .noAnswer } (some .jobFailed))) ∧
    (j.stage = .matching → (j.attempts < 3 ∨ ∃ n, (s.branch b).decided = some (n, .succeeded)) →
      exec (.matchListenEnd b) s = .next (freed.grant b))) ∧
  (∀ (s : State) (b : Branch), s.startup = .running → (s.branch b).window = .matchListen →
    (∀ j ∈ (s.queue b).head?, j.stage ≠ .matching) →
    let freed := s.setBranch b { s.branch b with window := .none, listenMs := none, decided := none, rangeCounter := none }
    exec (.matchListenEnd b) s = .next (freed.grant b)) ∧
  (∀ (s : State) (b : Branch) (j : Job) (js : List Job), s.startup = .running → (s.branch b).window = .rangeListen →
    s.queue b = j :: js → j.stage = .range →
    let freed := s.setBranch b { s.branch b with window := .none, listenMs := none, decided := none, rangeCounter := none }
    (j.attempts ≤ 1 → exec (.rangeListenTimeout b) s = .next (freed.grant b)) ∧
    (2 ≤ j.attempts → (s.entry j.drop).state = .ranging → exec (.rangeListenTimeout b) s =
      .next (freed.endJob j { (s.entry j.drop).boundAgain with lastResult := .noAnswer } (some .jobFailed)))) ∧
  (∀ (s : State) (b : Branch), s.startup = .running →
    (∀ c, (s.branch b).rangeCounter = some c → exec (.rangeCounterOverflow b) s =
      .next (s.setBranch b { s.branch b with rangeCounter := some ⟨4095, true⟩ })) ∧
    ∀ j js n, s.queue b = j :: js → j.stage = .admitting → (s.entry j.drop).state = .ranging →
      (s.entry j.drop).serial = some n →
      exec (.admitWaitExpiry b) s = .next ((s.sendCall b (.withdraw n)).endJob j
        { (s.entry j.drop).boundAgain with lastResult := .noPresence } (some .jobFailed)))

/-- A frame mark begins a frame of the width in force at step 1; a counting job counts it, starting again at 1 where the
width changed, and enters MATCH at the third; a step moves the frame on, up to its twelfth (R40, R109, R110). A job
whose count of frame marks is three enters MATCH with attempt count 0, its entry BINDING, and is granted the window if
it is NONE; one short of three waits on (R40). That a FRAME_MARK is taken at any step and a TRACE_STEP at step 12
changes nothing is the model's choice (log entry 18), and that WAIT_TRACE_COUNT_DONE acts where the count stands at
three is read from the spec (log entry 6). -/
def Obligations.FrameMarksAndCounts : Prop :=
  (∀ (s : State) (f : FrameTimer), s.startup = .running → s.frame = some f →
    (∃ t, exec .frameMark s = .next t ∧ t.frame = some ⟨s.settings.stepWidth, 1⟩ ∧
      t = { s with frame := t.frame, branches := t.branches, lanes := t.lanes, roster := t.roster } ∧
      (∀ b, (s.branch b).frameMarks = none → t.branch b = s.branch b) ∧
      ∀ b j js n, s.queue b = j :: js → j.stage = .waitTrace → (s.branch b).frameMarks = some n →
        let m := if s.settings.stepWidth = f.width then n + 1 else 1
        (m < 3 → (t.branch b) = { s.branch b with frameMarks := some m }) ∧
        (3 ≤ m → (t.branch b).frameMarks = none ∧ (t.entry j.drop).state = .binding ∧
          ∃ k ks, t.queue b = k :: ks ∧ k.drop = j.drop ∧ k.stage = .matching)) ∧
    (f.step < 12 → exec .traceStep s = .next { s with frame := some ⟨f.width, f.step + 1⟩ }) ∧
    (12 ≤ f.step → exec .traceStep s = .next s)) ∧
  (∀ (s : State) (b : Branch) (j : Job) (js : List Job) (n : Nat), s.startup = .running → s.queue b = j :: js →
    j.stage = .waitTrace → (s.branch b).frameMarks = some n →
    (3 ≤ n → (s.entry j.drop).state = .planned → exec (.waitTraceCountDone b) s =
      .next (((s.setBranch b { s.branch b with
        frameMarks := none, queue := { j with stage := .matching, attempts := 0 } :: js }).setEntry j.drop
          { s.entry j.drop with state := .binding, rejoinPending := false }).grant b)) ∧
    (n < 3 → exec (.waitTraceCountDone b) s = .next s))

/-! ## Supervision ticks -/

/-- The base tick counts the record of each ACTIVE entry whose divisor divides it; an entry that reaches its limit
becomes SILENT with its record frozen, and SILENCE is raised (R123, R124, R127). An ACTIVE entry at its silence limit
becomes SILENT, frozen, with SILENCE; an ACTIVE entry below its limit and an entry in any other state are left (R127).
That PRESENCE_TICK is the base tick, and that SILENCE_LIMIT_REACHED acts where its condition stands, is read from the
spec (log entries 9 and 6). -/
def Obligations.PresenceTickCountsAndSilences : Prop :=
  (∀ s : State, s.startup = .running →
    (∀ d p, (s.entry d).state = .active → (s.entry d).presence = some p → p.running < p.silenceLimit) →
    ∃ t, exec .presenceTick s = .next t ∧ t.baseTick = (s.baseTick + 1) % 8 ∧
      (∀ d, (s.entry d).state ≠ .active → t.entry d = s.entry d) ∧
      (∀ d p, (s.entry d).state = .active → (s.entry d).presence = some p → t.baseTick % p.divisor ≠ 0 →
        t.entry d = s.entry d) ∧
      (∀ d p, (s.entry d).state = .active → (s.entry d).presence = some p → t.baseTick % p.divisor = 0 →
        p.silenceLimit ≤ 255 →
        (p.running + 1 < p.silenceLimit →
          t.entry d = { s.entry d with presence := some { p with running := p.running + 1 } }) ∧
        (p.running + 1 = p.silenceLimit →
          t.entry d = { s.entry d with
            state := .silent, rejoinPending := false
            presence := some { p with running := p.running + 1, frozen := true } } ∧
          ∀ q, (t.port q).events &&& Event.silence.bit ≠ 0)) ∧
      t = { s with baseTick := t.baseTick, roster := t.roster, ports := t.ports }) ∧
  (∀ (s : State) (d : Drop), s.startup = .running →
    (∀ p, (s.entry d).state = .active → (s.entry d).presence = some p → p.silenceLimit ≤ p.running →
      exec (.silenceLimitReached d) s = .next ((s.setEntry d { s.entry d with
        state := .silent, rejoinPending := false, presence := some { p with frozen := true } }).raise .silence)) ∧
    (∀ p, (s.entry d).presence = some p → p.running < p.silenceLimit → exec (.silenceLimitReached d) s = .next s) ∧
    ((s.entry d).state ≠ .active → exec (.silenceLimitReached d) s = .next s))

/-- The minute tick: every arrival's age rises by one up to 255 and those at the limit leave, in order; every lease
falls by one, and a claim without lease ends with its holder's lapse mark set and CLAIM_ENDED in the holder's copy; its
holder's generators leave the drop and are offered, while the others stand (R103, R114, R117, R139). The tick reads the
age limit, so that a change of the setting acts from the next tick (R103). An arrival at the limit that the last tick
read leaves its list, and a claim without lease lapses; neither happens earlier (R103, R139). That ARRIVAL_AGE_OUT and
CLAIM_LAPSE act where their conditions stand is read from the spec (log entry 6). -/
def Obligations.MinuteTickAgesAndLapses : Prop :=
  (∀ s : State, s.startup = .running →
    let lapsing := fun g : Generator => match g.attached with
      | some (d, .port p) => (match s.claim d with
        | some c => decide (c.lease ≤ 1 ∧ c.holder.port = p)
        | none => false)
      | _ => false
    ∃ t, exec .minuteTick s = .next t ∧
    (∀ b, t.arrivalsOf b = { s.arrivalsOf b with
      items := ((s.arrivalsOf b).items.map fun a => { a with age := min 255 (a.age + 1) }).filter
        fun a => a.age < s.settings.ageLimit }) ∧
    (∀ d, t.claim d = (s.claim d).bind fun c => if c.lease ≤ 1 then none else some { c with lease := c.lease - 1 }) ∧
    (∀ d c, s.claim d = some c → c.lease ≤ 1 → t.lapsed c.holder d = true ∧
      (t.port c.holder.port).events &&& Event.claimEnded.bit ≠ 0 ∧
      ∀ g, (t.gen g).attached ≠ some (d, .port c.holder.port)) ∧
    (∀ (f : FieldPort) (d : Drop), (∀ c, s.claim d = some c → c.lease ≤ 1 → c.holder ≠ f) →
      t.lapsed f d = s.lapsed f d) ∧
    (∀ b, t.queue b = s.queue b) ∧
    t = { s.detachAndOffer lapsing with
      arrivals := t.arrivals, ageLimitRead := some s.settings.ageLimit, claims := t.claims, lapses := t.lapses
      ports := t.ports } ∧
    t = { s with
      arrivals := t.arrivals, ageLimitRead := some s.settings.ageLimit, claims := t.claims, lapses := t.lapses
      generators := t.generators
      branches := t.branches, lastServed := t.lastServed, ports := t.ports }) ∧
  (∀ s : State, s.startup = .running →
    (∀ (b : Branch) (n : Serial), exec (.arrivalAgeOut b n) s = .next (s.setArrivals b { s.arrivalsOf b with
      items := (s.arrivalsOf b).items.filter fun a => ¬ (a.serial = n ∧ ∃ limit ∈ s.ageLimitRead, limit ≤ a.age) })) ∧
    (∀ (d : Drop) (c : Claim), s.claim d = some c → c.lease = 0 → ∃ t, exec (.claimLapse d) s = .next t ∧
      t = (((s.detachAndOffer (Generator.tracedBy c.holder d)).setClaim d none).setLapse c.holder d).raiseFor c.holder
        .claimEnded ∧
      t.claim d = none ∧ (∀ e, e ≠ d → t.claim e = s.claim e) ∧ t.lapsed c.holder d = true ∧
      (t.port c.holder.port).events = (s.port c.holder.port).events ||| Event.claimEnded.bit ∧
      (∀ g, (t.gen g).attached ≠ some (d, .port c.holder.port)) ∧
      t = { s with
        claims := t.claims, lapses := t.lapses, generators := t.generators, branches := t.branches
        lastServed := t.lastServed, ports := t.ports }) ∧
    ∀ d : Drop, (∀ c, s.claim d = some c → c.lease ≠ 0) → exec (.claimLapse d) s = .next s)

/-! ## Supply, resets and start-up -/

/-- Levels while the part runs: in monitor mode ALARM a level below the alarm level is a fall, one at or above the
recovery level a recovery, and any other is only kept; in monitor mode RESET a level below the alarm level is a supply
reset; below 9.0 V a level is a power-on reset (R162 to R165, R167). In HELD a level releases the power-on hold at 9.0 V
and the supply hold at the recovery level of the working alarm level, and the scan starts when no hold is left (R165,
R167); in SCANNING a level of 9.0 V or more is only kept (R169). That a further level below 9.0 V, taken while the
power-on hold stands, is only kept is the model's choice (log entry 30). The reset pin: its assertion is a pin reset
held until its release, and the release of the last hold starts the scan (R167). -/
def Obligations.SupplyLevelsAndPin : Prop :=
  (∀ (s : State) (v : Nat), s.startup = .running → v ≤ 255 →
    let s1 : State := { s with supply := v }
    let a := s.settings.alarm.threshold
    (90 ≤ v → s.settings.monitorMode = .alarm →
      (s.monitor = .ok → v < a → exec (.supplyLevel v) s = .next s1.enterHold) ∧
      (s.monitor = .ok → a ≤ v → exec (.supplyLevel v) s = .next s1) ∧
      (s.monitor = .low → a + 2 ≤ v → exec (.supplyLevel v) s = .next s1.leaveHold) ∧
      (s.monitor = .low → v < a + 2 → exec (.supplyLevel v) s = .next s1)) ∧
    (90 ≤ v → s.settings.monitorMode = .reset → v < a → exec (.supplyLevel v) s = .next (s1.takeReset .supply)) ∧
    (90 ≤ v → s.settings.monitorMode = .reset → a ≤ v → s.monitor = .ok → exec (.supplyLevel v) s = .next s1) ∧
    (v < 90 → s.NoHolds → exec (.supplyLevel v) s = .next (s1.takeReset .powerOn))) ∧
  (∀ (s : State) (v : Nat), v ≤ 255 →
    let s1 : State := { s with supply := v }
    let a := s.settings.alarm.threshold
    (s.startup = .held →
      (v < 90 → s.powerOnHold = false → exec (.supplyLevel v) s = .next (s1.takeReset .powerOn)) ∧
      (v < 90 → s.powerOnHold = true → exec (.supplyLevel v) s = .next s1) ∧
      (90 ≤ v → exec (.supplyLevel v) s = .next { s1 with
        powerOnHold := false, supplyHold := s.supplyHold && decide (v < a + 2)
        startup := if s.pinHold = false ∧ (s.supplyHold = false ∨ a + 2 ≤ v) then .scanning false else .held })) ∧
    ∀ h, s.startup = .scanning h →
      (90 ≤ v → exec (.supplyLevel v) s = .next s1) ∧
      (v < 90 → s.powerOnHold = false → exec (.supplyLevel v) s = .next (s1.takeReset .powerOn))) ∧
  (∀ s : State,
    (s.pinHold = false → ∃ t, exec .pinAssert s = .next t ∧ t = s.takeReset .pin ∧ t.startup = .held ∧
      t.pinHold = true) ∧
    (s.startup = .held → s.powerOnHold = false → s.supplyHold = false →
      exec .pinRelease s = .next { s with pinHold := false, startup := .scanning false }) ∧
    (s.startup = .held → s.powerOnHold = true → s.supply < 90 → s.supplyHold = false →
      exec .pinRelease s = .next { s with pinHold := false }))

/-- Entry into HOLD: LOW, HOLD, the resume mode kept, SUPPLY_LOW; on each branch the timer stops, no call is due, the
window is NONE, and the head returns to WAITING from WAIT_TRACE, MATCH and RANGE while ADMIT goes on; no binding
generator stays attached (R47, R163). On recovery the monitor is OK, the mode is the resume mode, an open call is due at
once and granted on every branch, the heads in WAITING start if the mode is LIVE, in turn from the branch after the
last-served one, before the windows are granted, and SUPPLY_OK is raised (R48, R117, R164). That the open-call timer
starts beside that call, for a full period, is read from the spec (log entry 8). -/
def Obligations.EntryIntoHoldSendsHeadsBack : Prop :=
  (∀ s : State, s.QueueLaws →
    let t := s.enterHold
    t.monitor = .low ∧ t.mode = .hold ∧ (s.mode = .live → t.resume = .live) ∧ (s.mode = .survey → t.resume = .survey) ∧
    (∀ p, (t.port p).events = (s.port p).events ||| Event.supplyLow.bit) ∧
    (∀ b, (t.branch b).window = .none ∧ (t.branch b).openDue = false ∧ (t.branch b).openTimer = none ∧
      (t.branch b).frameMarks = none ∧ (t.branch b).admitWait = (s.branch b).admitWait ∧
      (t.queue b).tail = (s.queue b).tail) ∧
    (∀ g d b, (t.gen g).attached ≠ some (d, .binding b)) ∧
    t = { s with
      monitor := t.monitor, mode := t.mode, resume := t.resume, branches := t.branches, roster := t.roster
      generators := t.generators, ports := t.ports } ∧
    ∀ b j, (s.queue b).head? = some j →
      (j.stage = .waiting ∨ j.stage = .admitting → (t.queue b).head? = some j ∧ t.entry j.drop = s.entry j.drop) ∧
      (j.stage = .waitTrace → (t.queue b).head? = some { j with stage := .waiting, attempts := 0 } ∧
        t.entry j.drop = s.entry j.drop) ∧
      (j.stage = .matching → (s.entry j.drop).state = .binding →
        (t.queue b).head? = some { j with kind := .activate, stage := .waiting, attempts := 0 } ∧
        t.entry j.drop = { (s.entry j.drop).unbound .planned with lastResult := .held }) ∧
      (j.stage = .range → (s.entry j.drop).state = .ranging →
        (t.queue b).head? = some { j with kind := .rejoin, stage := .waiting, attempts := 0 } ∧
        t.entry j.drop = { (s.entry j.drop).boundAgain with lastResult := .held })) ∧
  ∀ s : State, s.QueueLaws →
    let t := s.leaveHold
    (let due : State := { s with
        monitor := .ok, mode := s.resume.mode
        branches := Vector.ofFn fun b : Fin 4 =>
          { s.branches[b] with openDue := true, openTimer := some s.settings.openPeriod } };
      let started := [s.lastServed + 1, s.lastServed + 2, s.lastServed + 3, s.lastServed].foldl
        (fun u b => u.startHead b) due;
      t = (([0, 1, 2, 3] : List Branch).foldl (fun u b => u.grant b) started).raise .supplyOk) ∧
    t.monitor = .ok ∧ t.mode = s.resume.mode ∧ t.resume = s.resume ∧ (∀ p, t.port p = (s.port p).raise .supplyOk) ∧
    (∀ b, ((s.branch b).window = .none → (t.branch b).window = .openCall ∧ (t.branch b).listenMs = some 300 ∧
        (t.branch b).openDue = false ∧ t.lane b = { s.lane b with calls := (s.lane b).calls ++ [.openCall b] }) ∧
      ((s.branch b).window ≠ .none → (t.branch b).window = (s.branch b).window ∧ (t.branch b).openDue = true ∧
        t.lane b = s.lane b) ∧
      (t.branch b).openTimer = some s.settings.openPeriod ∧ (t.branch b).admitWait = (s.branch b).admitWait ∧
      (t.queue b).tail = (s.queue b).tail ∧
      (s.resume = .survey ∨ (∀ j ∈ (s.queue b).head?, j.stage ≠ .waiting) → t.queue b = s.queue b)) ∧
    (∀ b j, s.resume = .live → (s.queue b).head? = some j → j.stage = .waiting →
      (j.kind = .rejoin → (s.entry j.drop).state = .bound →
        (t.queue b).head? = some { j with stage := .range, attempts := 0 } ∧
        t.entry j.drop = { s.entry j.drop with state := .ranging, rejoinPending := false }) ∧
      (j.kind = .activate → (t.queue b).head? = some { j with stage := .waitTrace } ∧
        ((s.branch b).frameMarks = none →
          ((t.branch b).frameMarks = some 0 ∧ ∃ g, t.gen g = ⟨some (j.drop, .binding b), bindingCode b, 12, .cleared⟩) ∨
          ((t.branch b).frameMarks = none ∧
            ((∃ g a, (s.gen g).attached = some a ∧ a.1 = j.drop) ∨ ∀ g, (t.gen g).attached ≠ none))))) ∧
    (∀ d, (∀ j ∈ (s.queue d.branch).head?, j.drop = d → j.stage ≠ .waiting ∨ j.kind = .activate ∨ s.resume = .survey) →
      t.entry d = s.entry d) ∧
    t = { s with
      monitor := t.monitor, mode := t.mode, branches := t.branches, lanes := t.lanes, roster := t.roster
      generators := t.generators, lastServed := t.lastServed, ports := t.ports }

/-- A reset empties the working state of every block, tears a write in flight, keeps the store records with their marks,
bodies and checks, changes each reset-cause copy as its source says, keeps the alarm level and the monitor mode over a
supply reset and sets them to A2 and ALARM on any other, and holds the part while a source is held; a burst in progress
is followed to its end and ignored (R17, R28, R51, R78, R90, R94, R96, R107, R133, R144, R152, R167 to R169, R174).
Where resets overlap, that the latest source decides the alarm level and the monitor mode is read from the spec (log
entry 17). That a torn record keeps its former body bytes under a mark of the cut is the model's choice (log entry 16).
-/
def Obligations.ResetEmptiesWorkingState : Prop :=
  ∀ (s : State) (src : ResetSource),
    let t := s.takeReset src
    (∀ d, t.entry d = .empty ∧ t.claim d = none ∧ (t.slot d).marks = (s.slot d).marks ∧
      (t.slot d).body = (s.slot d).body ∧ (t.slot d).check = (s.slot d).check ∧
      ((t.slot d).cut = true ↔ (s.slot d).cut = true ∨ ∃ body, s.controller = .writing (.slot d body))) ∧
    t.header.marks = s.header.marks ∧ t.header.body = s.header.body ∧ t.header.check = s.header.check ∧
    (t.header.cut = true ↔ s.header.cut = true ∨
      ∃ st n, s.controller = .writing (.header st n)) ∧
    (∀ b, t.branch b = .empty ∧ t.arrivalsOf b = ⟨[], 0⟩ ∧ (t.lane b).flags = 0 ∧ (t.lane b).count = 0 ∧
      (t.lane b).seen = 0 ∧ (t.lane b).closed = false ∧
      (t.lane b).rx = (s.lane b).rx.map fun r => { r with taken := false }) ∧
    (∀ i : Fin 4, t.unknown.entries[i] = none) ∧ t.unknown.overflow = false ∧
    (∀ g, t.gen g = .empty) ∧ t.lastServed = 3 ∧ t.frame = none ∧
    t.mode = .survey ∧ t.resume = .survey ∧ t.monitor = .ok ∧ t.controller = .scanning ∧ t.restart = none ∧
    (∀ f d, t.lapsed f d = false) ∧
    (∀ p, (t.port p).answer = .ready ∧ (t.port p).events = 0 ∧ (t.port p).mask = 0 ∧ (t.port p).badFrames = 0 ∧
      t.alertLine p = false ∧ (t.port p).causes = (match src with
        | .powerOn => ⟨true, false, false, false⟩
        | .supply => { (s.port p).causes with supply := true }
        | .pin => { (s.port p).causes with pin := true }
        | .command => { (s.port p).causes with command := true })) ∧
    (src = .supply → t.settings.alarm = s.settings.alarm ∧ t.settings.monitorMode = s.settings.monitorMode) ∧
    (src ≠ .supply → t.settings.alarm = .a2 ∧ t.settings.monitorMode = .alarm) ∧
    ((t.startup = .held ∧ ¬ t.NoHolds) ∨ (t.startup = .scanning false ∧ t.NoHolds))

/-- The end of the scan opens the part: RUNNING in the start mode, STARTED raised, the frame at step 1, an open call
granted on every branch, the controller IDLE, each entry as its slot was found, STORE_SUSPECT raised where a slot was
found torn, and the next sequence number one above the greatest of the good slots, EMPTY ones too, or 1 with none (R150,
R158 to R160, R171). Then the supply is compared: below the alarm level the open part enters HOLD in monitor mode ALARM
and takes a supply reset in monitor mode RESET (R171). That the open-call timer runs beside that first call is read from
the spec (log entry 8). That the open calls go out before the comparison is the model's choice (log entry 27), and so is
that a scan whose header no earlier step has read reads it here (log entry 2). -/
def Obligations.ScanEndOpensThePart : Prop :=
  (∀ s u : State, s.startup = .scanning false → step { s with pending := [] } = .next u →
    exec .startupScanEnd s = exec .startupScanEnd { u with pending := s.pending }) ∧
  ∀ s : State, s.startup = .scanning true → s.monitor = .ok → (∀ b, s.branch b = .empty) → ∃ o : State,
    (s.settings.alarm.threshold ≤ s.supply → exec .startupScanEnd s = .next o) ∧
    (s.supply < s.settings.alarm.threshold → s.settings.monitorMode = .alarm →
      exec .startupScanEnd s = .next o.enterHold ∧ o.enterHold.mode = .hold ∧
      o.enterHold.resume = s.settings.startMode ∧
      ∀ p, (o.enterHold.port p).events &&& Event.supplyLow.bit ≠ 0) ∧
    (s.supply < s.settings.alarm.threshold → s.settings.monitorMode = .reset →
      exec .startupScanEnd s = .next (o.takeReset .supply)) ∧
    o.startup = .running ∧ o.mode = s.settings.startMode.mode ∧ o.resume = s.settings.startMode ∧
    o.frame = some ⟨s.settings.stepWidth, 1⟩ ∧ o.controller = .idle ∧
    (∀ p, o.port p = { s.port p with events := (s.port p).events |||
      (if ∃ d, (s.slot d).found = .torn then Event.storeSuspect.bit else 0) ||| Event.started.bit }) ∧
    (∀ b, o.branch b = { BranchCtl.empty with
        window := .openCall, listenMs := some 300, openTimer := some s.settings.openPeriod } ∧
      o.lane b = { s.lane b with calls := (s.lane b).calls ++ [.openCall b] }) ∧
    (∀ d, o.image d = (s.slot d).found) ∧
    (∀ d, (∀ body, (s.slot d).found ≠ .filled body) → o.entry d = .empty) ∧
    (∀ d, (s.slot d).found = .torn → o.storeStatus d = .suspect) ∧
    (∀ d body, (s.slot d).found = .filled body → (o.entry d).plot = body.plot ∧
      (o.entry d).provider = body.provider ∧
      let beaten := ∃ e c, e ≠ d ∧ (s.slot e).found = .filled c ∧ c.serial = body.serial ∧
        (body.seq < c.seq ∨ (body.seq = c.seq ∧ e < d))
      (beaten → (o.entry d).state = .planned ∧ (o.entry d).serial = none ∧
        (o.entry d).lastSerial = some body.serial ∧ (o.entry d).lastResult = .crossed ∧
        (o.entry d).offsetSource = .working ∧ o.storeStatus d = .differs) ∧
      (¬ beaten → (o.entry d).state = .bound ∧ (o.entry d).serial = some body.serial ∧
        (o.entry d).delay = some body.delay ∧ (o.entry d).offsetSource = .store ∧
        o.storeStatus d = .matches)) ∧
    (∀ d body, (s.slot d).found = .filled body → body.seq < o.nextSeq) ∧
    (∀ d n, (s.slot d).found = .empty n → n < o.nextSeq) ∧
    (o.nextSeq = 1 ∨ (∃ d body, (s.slot d).found = .filled body ∧ o.nextSeq = body.seq + 1) ∨
      ∃ d n, (s.slot d).found = .empty n ∧ o.nextSeq = n + 1) ∧
    o = { s with
      startup := o.startup, mode := o.mode, resume := o.resume, frame := o.frame, baseTick := 0, ports := o.ports
      roster := o.roster, images := o.images, nextSeq := o.nextSeq, controller := o.controller
      branches := o.branches, lanes := o.lanes }

/-! ## Invariants -/

/-- The queue laws, the pairing of entry states with jobs, the pending flags and the intake law hold after every step
from a state whose modes keep together, as they do after every step (R11, R12, R26, R29). -/
def Obligations.StepKeepsJobLaws : Prop :=
  ∀ s t : State, s.JobInv → s.ModeInv → step s = .next t → t.JobInv

/-- Each serial stands in one entry of a state that bears one, or in one place of the arrivals lists, after every step
(R4, R96). Presence records stand exactly on ACTIVE and SILENT entries after every step (R10). -/
def Obligations.StepKeepsSerialAndPresenceLaws : Prop :=
  (∀ s t : State, s.JobInv → s.SerialInv → step s = .next t → t.SerialInv) ∧
  (∀ s t : State, s.JobInv → s.PresenceInv → step s = .next t → t.PresenceInv)

/-- No two attached generators share a drop or an observed sequence, and each plays what it may, after every step (R107,
R111, R116). -/
def Obligations.StepKeepsGeneratorLaws : Prop :=
  ∀ s t : State, s.JobInv → s.GenInv → step s = .next t → t.GenInv

/-- The mode, the resume mode, the monitor state, the frame timer and the holds keep together after every step (R109,
R144, R167). A held RESTART waits for a write in flight with the Uplink ANSWERING, and no field port holds more than 8
claims, after every step (R133, R172). -/
def Obligations.StepKeepsModeRestartAndClaimLaws : Prop :=
  (∀ s t : State, s.ModeInv → step s = .next t → t.ModeInv) ∧
  (∀ s t : State, step s = .next t → (s.RestartInv → t.RestartInv) ∧ (s.ClaimInv → t.ClaimInv))

/-- The commit marks of a record never decrease under any step, whatever the state, and stay within four (R149). -/
def Obligations.CommitMarksNeverDecrease : Prop :=
  ∀ s t : State, step s = .next t →
    (∀ d, (s.slot d).marks ≤ (t.slot d).marks) ∧ s.header.marks ≤ t.header.marks ∧ (s.MarksInv → t.MarksInv)

/-- The laws hold of the state after reset. -/
def Obligations.LawsHoldAtReset : Prop :=
  State.reset.JobInv ∧ State.reset.SerialInv ∧ State.reset.PresenceInv ∧ State.reset.GenInv ∧ State.reset.ModeInv ∧
    State.reset.MarksInv ∧ State.reset.RestartInv ∧ State.reset.ClaimInv

/-! ## The provider check -/

/-- A burst of a known kind that has ended and passes checks 1 to 7 is accepted: after the repairs its checks report and
no earlier part of it has reported (log entry 11), a tag 1..7 joins the lane's provider-seen set and is reported
PROVIDER_OFF_SEEN when it is not enabled, and the burst is then handed on by its kind as if its tag were enabled, to the
Arrivals List, the Branch Controller or the Presence Supervisor (R86 to R89). That a HELLO and a PRESENCE go to the
Trace Unit first is the model's choice (log entry 13). A burst given in parts with nothing between comes to the same as
the burst given whole, whatever its kind and its faults (log entry 11). -/
def Obligations.AcceptedBurstsNoteTheirProvider : Prop :=
  (∀ (s : State) (b : Branch) (tag : BitVec 3),
    let u := s.setLane b { s.lane b with seen := (s.lane b).seen ||| (1#8 <<< tag.toNat) }
    (tag = 0 → s.noteProvider b tag = s) ∧
    (tag ≠ 0 → s.settings.providers &&& (1#8 <<< tag.toNat) ≠ 0 → s.noteProvider b tag = u) ∧
    (tag ≠ 0 → s.settings.providers &&& (1#8 <<< tag.toNat) = 0 →
      s.noteProvider b tag = u.reportFault b .providerOffSeen)) ∧
  (∀ (s : State) (b : Branch) (kind : BitVec 4) (x : Burst) (p : BurstPart) (t : State), s.Listening b →
    x.inTime = true → p ≠ .ended →
    ∀ row ∈ [Instr.hello b, .matchReply b, .rangeReply b, .presence b, .unknownKindBurst b kind, .badBurst b kind],
      exec (row { x with upTo := p }) s = .next t →
        exec (row { x with upTo := .ended }) t = exec (row { x with upTo := .ended }) s) ∧
  ∀ (s : State) (b : Branch) (x : Burst) (r : Reception) (h : Header) (payload : List Byte), s.OpenLane b →
    x.inTime = true → x.upTo = .ended →
    r = (s.lane b).rx.getD ⟨s.settings.tolerance, .begun, (s.branch b).rangeCounter, true⟩ →
    r.taken = true → (inspect r.tolerance x).intact = some (h, payload) →
    let found := foundBetween r.upTo .ended (inspect r.tolerance x).faults
    let u := ((s.setLane b { s.lane b with rx := none }).reportFound b found).noteProvider b h.tag
    let n := h.serial
    let raw := payloadLevel payload
    let obs := payloadObservation payload
    (h.kind = 1 → (s.branch b).window = .openCall → exec (.hello b x) s =
      .next ((u.takeEcho n b obs (s.holderOf n)).takeHello b ⟨n, h.tag, raw, obs⟩)) ∧
    (h.kind = 2 → (s.branch b).window = .matchListen → exec (.matchReply b x) s =
      .next (u.takeMatchReply b ⟨n, h.tag, raw, obs⟩)) ∧
    (h.kind = 3 → (s.branch b).window = .rangeListen → exec (.rangeReply b x) s =
      .next (u.takeRangeReply b n r.counter)) ∧
    ∀ d : Drop, h.kind = 4 → d.branch = b → (s.entry d).serial = some n →
      (∀ e, e ≠ d → (s.entry e).serial ≠ some n) →
      ((s.entry d).state = .active ∨ (s.entry d).state = .silent ∨
        ((s.entry d).state = .ranging ∧ ∃ j, s.jobOf d = some j ∧ j.stage = .admitting)) →
      exec (.presence b x) s = .next ((u.takeEcho n b obs (some d)).takePresence d raw)
end

