-- ==== Sys2Proof/Laws/State.lean ====
section
/-! SUPPORT. One lemma for each field under each named update of the state: what the update leaves as it was, by `rfl`, and
what the accessor of the updated record reads. -/

namespace Sys2Proof.Machine.State

variable (s : State)

/-! setPort -/

@[simp] theorem setPort_pending (p : Port) (v : PortRecord) : (s.setPort p v).pending = s.pending := rfl
@[simp] theorem setPort_startup (p : Port) (v : PortRecord) : (s.setPort p v).startup = s.startup := rfl
@[simp] theorem setPort_powerOnHold (p : Port) (v : PortRecord) : (s.setPort p v).powerOnHold = s.powerOnHold := rfl
@[simp] theorem setPort_supplyHold (p : Port) (v : PortRecord) : (s.setPort p v).supplyHold = s.supplyHold := rfl
@[simp] theorem setPort_pinHold (p : Port) (v : PortRecord) : (s.setPort p v).pinHold = s.pinHold := rfl
@[simp] theorem setPort_keepThresholds (p : Port) (v : PortRecord) : (s.setPort p v).keepThresholds = s.keepThresholds := rfl
@[simp] theorem setPort_restart (p : Port) (v : PortRecord) : (s.setPort p v).restart = s.restart := rfl
@[simp] theorem setPort_supply (p : Port) (v : PortRecord) : (s.setPort p v).supply = s.supply := rfl
@[simp] theorem setPort_monitor (p : Port) (v : PortRecord) : (s.setPort p v).monitor = s.monitor := rfl
@[simp] theorem setPort_mode (p : Port) (v : PortRecord) : (s.setPort p v).mode = s.mode := rfl
@[simp] theorem setPort_resume (p : Port) (v : PortRecord) : (s.setPort p v).resume = s.resume := rfl
@[simp] theorem setPort_settings (p : Port) (v : PortRecord) : (s.setPort p v).settings = s.settings := rfl
@[simp] theorem setPort_estateId (p : Port) (v : PortRecord) : (s.setPort p v).estateId = s.estateId := rfl
@[simp] theorem setPort_unsaved (p : Port) (v : PortRecord) : (s.setPort p v).unsaved = s.unsaved := rfl
@[simp] theorem setPort_roster (p : Port) (v : PortRecord) : (s.setPort p v).roster = s.roster := rfl
@[simp] theorem setPort_claims (p : Port) (v : PortRecord) : (s.setPort p v).claims = s.claims := rfl
@[simp] theorem setPort_lapses (p : Port) (v : PortRecord) : (s.setPort p v).lapses = s.lapses := rfl
@[simp] theorem setPort_branches (p : Port) (v : PortRecord) : (s.setPort p v).branches = s.branches := rfl
@[simp] theorem setPort_lanes (p : Port) (v : PortRecord) : (s.setPort p v).lanes = s.lanes := rfl
@[simp] theorem setPort_arrivals (p : Port) (v : PortRecord) : (s.setPort p v).arrivals = s.arrivals := rfl
@[simp] theorem setPort_ageLimitRead (p : Port) (v : PortRecord) : (s.setPort p v).ageLimitRead = s.ageLimitRead := rfl
@[simp] theorem setPort_unknown (p : Port) (v : PortRecord) : (s.setPort p v).unknown = s.unknown := rfl
@[simp] theorem setPort_generators (p : Port) (v : PortRecord) : (s.setPort p v).generators = s.generators := rfl
@[simp] theorem setPort_lastServed (p : Port) (v : PortRecord) : (s.setPort p v).lastServed = s.lastServed := rfl
@[simp] theorem setPort_frame (p : Port) (v : PortRecord) : (s.setPort p v).frame = s.frame := rfl
@[simp] theorem setPort_baseTick (p : Port) (v : PortRecord) : (s.setPort p v).baseTick = s.baseTick := rfl
@[simp] theorem setPort_slots (p : Port) (v : PortRecord) : (s.setPort p v).slots = s.slots := rfl
@[simp] theorem setPort_header (p : Port) (v : PortRecord) : (s.setPort p v).header = s.header := rfl
@[simp] theorem setPort_images (p : Port) (v : PortRecord) : (s.setPort p v).images = s.images := rfl
@[simp] theorem setPort_headerImage (p : Port) (v : PortRecord) : (s.setPort p v).headerImage = s.headerImage := rfl
@[simp] theorem setPort_nextSeq (p : Port) (v : PortRecord) : (s.setPort p v).nextSeq = s.nextSeq := rfl
@[simp] theorem setPort_controller (p : Port) (v : PortRecord) : (s.setPort p v).controller = s.controller := rfl
@[simp] theorem setPort_lane (p : Port) (v : PortRecord) (b' : Branch) : (s.setPort p v).lane b' = s.lane b' := rfl
@[simp] theorem setPort_entry (p : Port) (v : PortRecord) (d' : Drop) : (s.setPort p v).entry d' = s.entry d' := rfl
@[simp] theorem setPort_claim (p : Port) (v : PortRecord) (d' : Drop) : (s.setPort p v).claim d' = s.claim d' := rfl
@[simp] theorem setPort_branch (p : Port) (v : PortRecord) (b' : Branch) : (s.setPort p v).branch b' = s.branch b' := rfl
@[simp] theorem setPort_queue (p : Port) (v : PortRecord) (b' : Branch) : (s.setPort p v).queue b' = s.queue b' := rfl
@[simp] theorem setPort_arrivalsOf (p : Port) (v : PortRecord) (b' : Branch) : (s.setPort p v).arrivalsOf b' = s.arrivalsOf b' := rfl
@[simp] theorem setPort_gen (p : Port) (v : PortRecord) (g' : Gen) : (s.setPort p v).gen g' = s.gen g' := rfl
@[simp] theorem setPort_slot (p : Port) (v : PortRecord) (d' : Drop) : (s.setPort p v).slot d' = s.slot d' := rfl
@[simp] theorem setPort_image (p : Port) (v : PortRecord) (d' : Drop) : (s.setPort p v).image d' = s.image d' := rfl

/-! setLane -/

@[simp] theorem setLane_pending (b : Branch) (v : Lane) : (s.setLane b v).pending = s.pending := rfl
@[simp] theorem setLane_startup (b : Branch) (v : Lane) : (s.setLane b v).startup = s.startup := rfl
@[simp] theorem setLane_powerOnHold (b : Branch) (v : Lane) : (s.setLane b v).powerOnHold = s.powerOnHold := rfl
@[simp] theorem setLane_supplyHold (b : Branch) (v : Lane) : (s.setLane b v).supplyHold = s.supplyHold := rfl
@[simp] theorem setLane_pinHold (b : Branch) (v : Lane) : (s.setLane b v).pinHold = s.pinHold := rfl
@[simp] theorem setLane_keepThresholds (b : Branch) (v : Lane) : (s.setLane b v).keepThresholds = s.keepThresholds := rfl
@[simp] theorem setLane_restart (b : Branch) (v : Lane) : (s.setLane b v).restart = s.restart := rfl
@[simp] theorem setLane_supply (b : Branch) (v : Lane) : (s.setLane b v).supply = s.supply := rfl
@[simp] theorem setLane_monitor (b : Branch) (v : Lane) : (s.setLane b v).monitor = s.monitor := rfl
@[simp] theorem setLane_mode (b : Branch) (v : Lane) : (s.setLane b v).mode = s.mode := rfl
@[simp] theorem setLane_resume (b : Branch) (v : Lane) : (s.setLane b v).resume = s.resume := rfl
@[simp] theorem setLane_settings (b : Branch) (v : Lane) : (s.setLane b v).settings = s.settings := rfl
@[simp] theorem setLane_estateId (b : Branch) (v : Lane) : (s.setLane b v).estateId = s.estateId := rfl
@[simp] theorem setLane_unsaved (b : Branch) (v : Lane) : (s.setLane b v).unsaved = s.unsaved := rfl
@[simp] theorem setLane_ports (b : Branch) (v : Lane) : (s.setLane b v).ports = s.ports := rfl
@[simp] theorem setLane_roster (b : Branch) (v : Lane) : (s.setLane b v).roster = s.roster := rfl
@[simp] theorem setLane_claims (b : Branch) (v : Lane) : (s.setLane b v).claims = s.claims := rfl
@[simp] theorem setLane_lapses (b : Branch) (v : Lane) : (s.setLane b v).lapses = s.lapses := rfl
@[simp] theorem setLane_branches (b : Branch) (v : Lane) : (s.setLane b v).branches = s.branches := rfl
@[simp] theorem setLane_arrivals (b : Branch) (v : Lane) : (s.setLane b v).arrivals = s.arrivals := rfl
@[simp] theorem setLane_ageLimitRead (b : Branch) (v : Lane) : (s.setLane b v).ageLimitRead = s.ageLimitRead := rfl
@[simp] theorem setLane_unknown (b : Branch) (v : Lane) : (s.setLane b v).unknown = s.unknown := rfl
@[simp] theorem setLane_generators (b : Branch) (v : Lane) : (s.setLane b v).generators = s.generators := rfl
@[simp] theorem setLane_lastServed (b : Branch) (v : Lane) : (s.setLane b v).lastServed = s.lastServed := rfl
@[simp] theorem setLane_frame (b : Branch) (v : Lane) : (s.setLane b v).frame = s.frame := rfl
@[simp] theorem setLane_baseTick (b : Branch) (v : Lane) : (s.setLane b v).baseTick = s.baseTick := rfl
@[simp] theorem setLane_slots (b : Branch) (v : Lane) : (s.setLane b v).slots = s.slots := rfl
@[simp] theorem setLane_header (b : Branch) (v : Lane) : (s.setLane b v).header = s.header := rfl
@[simp] theorem setLane_images (b : Branch) (v : Lane) : (s.setLane b v).images = s.images := rfl
@[simp] theorem setLane_headerImage (b : Branch) (v : Lane) : (s.setLane b v).headerImage = s.headerImage := rfl
@[simp] theorem setLane_nextSeq (b : Branch) (v : Lane) : (s.setLane b v).nextSeq = s.nextSeq := rfl
@[simp] theorem setLane_controller (b : Branch) (v : Lane) : (s.setLane b v).controller = s.controller := rfl
@[simp] theorem setLane_port (b : Branch) (v : Lane) (p' : Port) : (s.setLane b v).port p' = s.port p' := rfl
@[simp] theorem setLane_entry (b : Branch) (v : Lane) (d' : Drop) : (s.setLane b v).entry d' = s.entry d' := rfl
@[simp] theorem setLane_claim (b : Branch) (v : Lane) (d' : Drop) : (s.setLane b v).claim d' = s.claim d' := rfl
@[simp] theorem setLane_branch (b : Branch) (v : Lane) (b' : Branch) : (s.setLane b v).branch b' = s.branch b' := rfl
@[simp] theorem setLane_queue (b : Branch) (v : Lane) (b' : Branch) : (s.setLane b v).queue b' = s.queue b' := rfl
@[simp] theorem setLane_arrivalsOf (b : Branch) (v : Lane) (b' : Branch) : (s.setLane b v).arrivalsOf b' = s.arrivalsOf b' := rfl
@[simp] theorem setLane_gen (b : Branch) (v : Lane) (g' : Gen) : (s.setLane b v).gen g' = s.gen g' := rfl
@[simp] theorem setLane_slot (b : Branch) (v : Lane) (d' : Drop) : (s.setLane b v).slot d' = s.slot d' := rfl
@[simp] theorem setLane_image (b : Branch) (v : Lane) (d' : Drop) : (s.setLane b v).image d' = s.image d' := rfl

/-! setEntry -/

@[simp] theorem setEntry_pending (d : Drop) (v : Entry) : (s.setEntry d v).pending = s.pending := rfl
@[simp] theorem setEntry_startup (d : Drop) (v : Entry) : (s.setEntry d v).startup = s.startup := rfl
@[simp] theorem setEntry_powerOnHold (d : Drop) (v : Entry) : (s.setEntry d v).powerOnHold = s.powerOnHold := rfl
@[simp] theorem setEntry_supplyHold (d : Drop) (v : Entry) : (s.setEntry d v).supplyHold = s.supplyHold := rfl
@[simp] theorem setEntry_pinHold (d : Drop) (v : Entry) : (s.setEntry d v).pinHold = s.pinHold := rfl
@[simp] theorem setEntry_keepThresholds (d : Drop) (v : Entry) : (s.setEntry d v).keepThresholds = s.keepThresholds := rfl
@[simp] theorem setEntry_restart (d : Drop) (v : Entry) : (s.setEntry d v).restart = s.restart := rfl
@[simp] theorem setEntry_supply (d : Drop) (v : Entry) : (s.setEntry d v).supply = s.supply := rfl
@[simp] theorem setEntry_monitor (d : Drop) (v : Entry) : (s.setEntry d v).monitor = s.monitor := rfl
@[simp] theorem setEntry_mode (d : Drop) (v : Entry) : (s.setEntry d v).mode = s.mode := rfl
@[simp] theorem setEntry_resume (d : Drop) (v : Entry) : (s.setEntry d v).resume = s.resume := rfl
@[simp] theorem setEntry_settings (d : Drop) (v : Entry) : (s.setEntry d v).settings = s.settings := rfl
@[simp] theorem setEntry_estateId (d : Drop) (v : Entry) : (s.setEntry d v).estateId = s.estateId := rfl
@[simp] theorem setEntry_unsaved (d : Drop) (v : Entry) : (s.setEntry d v).unsaved = s.unsaved := rfl
@[simp] theorem setEntry_ports (d : Drop) (v : Entry) : (s.setEntry d v).ports = s.ports := rfl
@[simp] theorem setEntry_claims (d : Drop) (v : Entry) : (s.setEntry d v).claims = s.claims := rfl
@[simp] theorem setEntry_lapses (d : Drop) (v : Entry) : (s.setEntry d v).lapses = s.lapses := rfl
@[simp] theorem setEntry_branches (d : Drop) (v : Entry) : (s.setEntry d v).branches = s.branches := rfl
@[simp] theorem setEntry_lanes (d : Drop) (v : Entry) : (s.setEntry d v).lanes = s.lanes := rfl
@[simp] theorem setEntry_arrivals (d : Drop) (v : Entry) : (s.setEntry d v).arrivals = s.arrivals := rfl
@[simp] theorem setEntry_ageLimitRead (d : Drop) (v : Entry) : (s.setEntry d v).ageLimitRead = s.ageLimitRead := rfl
@[simp] theorem setEntry_unknown (d : Drop) (v : Entry) : (s.setEntry d v).unknown = s.unknown := rfl
@[simp] theorem setEntry_generators (d : Drop) (v : Entry) : (s.setEntry d v).generators = s.generators := rfl
@[simp] theorem setEntry_lastServed (d : Drop) (v : Entry) : (s.setEntry d v).lastServed = s.lastServed := rfl
@[simp] theorem setEntry_frame (d : Drop) (v : Entry) : (s.setEntry d v).frame = s.frame := rfl
@[simp] theorem setEntry_baseTick (d : Drop) (v : Entry) : (s.setEntry d v).baseTick = s.baseTick := rfl
@[simp] theorem setEntry_slots (d : Drop) (v : Entry) : (s.setEntry d v).slots = s.slots := rfl
@[simp] theorem setEntry_header (d : Drop) (v : Entry) : (s.setEntry d v).header = s.header := rfl
@[simp] theorem setEntry_images (d : Drop) (v : Entry) : (s.setEntry d v).images = s.images := rfl
@[simp] theorem setEntry_headerImage (d : Drop) (v : Entry) : (s.setEntry d v).headerImage = s.headerImage := rfl
@[simp] theorem setEntry_nextSeq (d : Drop) (v : Entry) : (s.setEntry d v).nextSeq = s.nextSeq := rfl
@[simp] theorem setEntry_controller (d : Drop) (v : Entry) : (s.setEntry d v).controller = s.controller := rfl
@[simp] theorem setEntry_port (d : Drop) (v : Entry) (p' : Port) : (s.setEntry d v).port p' = s.port p' := rfl
@[simp] theorem setEntry_lane (d : Drop) (v : Entry) (b' : Branch) : (s.setEntry d v).lane b' = s.lane b' := rfl
@[simp] theorem setEntry_claim (d : Drop) (v : Entry) (d' : Drop) : (s.setEntry d v).claim d' = s.claim d' := rfl
@[simp] theorem setEntry_branch (d : Drop) (v : Entry) (b' : Branch) : (s.setEntry d v).branch b' = s.branch b' := rfl
@[simp] theorem setEntry_queue (d : Drop) (v : Entry) (b' : Branch) : (s.setEntry d v).queue b' = s.queue b' := rfl
@[simp] theorem setEntry_arrivalsOf (d : Drop) (v : Entry) (b' : Branch) : (s.setEntry d v).arrivalsOf b' = s.arrivalsOf b' := rfl
@[simp] theorem setEntry_gen (d : Drop) (v : Entry) (g' : Gen) : (s.setEntry d v).gen g' = s.gen g' := rfl
@[simp] theorem setEntry_slot (d : Drop) (v : Entry) (d' : Drop) : (s.setEntry d v).slot d' = s.slot d' := rfl
@[simp] theorem setEntry_image (d : Drop) (v : Entry) (d' : Drop) : (s.setEntry d v).image d' = s.image d' := rfl

/-! setClaim -/

@[simp] theorem setClaim_pending (d : Drop) (v : Option Claim) : (s.setClaim d v).pending = s.pending := rfl
@[simp] theorem setClaim_startup (d : Drop) (v : Option Claim) : (s.setClaim d v).startup = s.startup := rfl
@[simp] theorem setClaim_powerOnHold (d : Drop) (v : Option Claim) : (s.setClaim d v).powerOnHold = s.powerOnHold := rfl
@[simp] theorem setClaim_supplyHold (d : Drop) (v : Option Claim) : (s.setClaim d v).supplyHold = s.supplyHold := rfl
@[simp] theorem setClaim_pinHold (d : Drop) (v : Option Claim) : (s.setClaim d v).pinHold = s.pinHold := rfl
@[simp] theorem setClaim_keepThresholds (d : Drop) (v : Option Claim) : (s.setClaim d v).keepThresholds = s.keepThresholds := rfl
@[simp] theorem setClaim_restart (d : Drop) (v : Option Claim) : (s.setClaim d v).restart = s.restart := rfl
@[simp] theorem setClaim_supply (d : Drop) (v : Option Claim) : (s.setClaim d v).supply = s.supply := rfl
@[simp] theorem setClaim_monitor (d : Drop) (v : Option Claim) : (s.setClaim d v).monitor = s.monitor := rfl
@[simp] theorem setClaim_mode (d : Drop) (v : Option Claim) : (s.setClaim d v).mode = s.mode := rfl
@[simp] theorem setClaim_resume (d : Drop) (v : Option Claim) : (s.setClaim d v).resume = s.resume := rfl
@[simp] theorem setClaim_settings (d : Drop) (v : Option Claim) : (s.setClaim d v).settings = s.settings := rfl
@[simp] theorem setClaim_estateId (d : Drop) (v : Option Claim) : (s.setClaim d v).estateId = s.estateId := rfl
@[simp] theorem setClaim_unsaved (d : Drop) (v : Option Claim) : (s.setClaim d v).unsaved = s.unsaved := rfl
@[simp] theorem setClaim_ports (d : Drop) (v : Option Claim) : (s.setClaim d v).ports = s.ports := rfl
@[simp] theorem setClaim_roster (d : Drop) (v : Option Claim) : (s.setClaim d v).roster = s.roster := rfl
@[simp] theorem setClaim_lapses (d : Drop) (v : Option Claim) : (s.setClaim d v).lapses = s.lapses := rfl
@[simp] theorem setClaim_branches (d : Drop) (v : Option Claim) : (s.setClaim d v).branches = s.branches := rfl
@[simp] theorem setClaim_lanes (d : Drop) (v : Option Claim) : (s.setClaim d v).lanes = s.lanes := rfl
@[simp] theorem setClaim_arrivals (d : Drop) (v : Option Claim) : (s.setClaim d v).arrivals = s.arrivals := rfl
@[simp] theorem setClaim_ageLimitRead (d : Drop) (v : Option Claim) : (s.setClaim d v).ageLimitRead = s.ageLimitRead := rfl
@[simp] theorem setClaim_unknown (d : Drop) (v : Option Claim) : (s.setClaim d v).unknown = s.unknown := rfl
@[simp] theorem setClaim_generators (d : Drop) (v : Option Claim) : (s.setClaim d v).generators = s.generators := rfl
@[simp] theorem setClaim_lastServed (d : Drop) (v : Option Claim) : (s.setClaim d v).lastServed = s.lastServed := rfl
@[simp] theorem setClaim_frame (d : Drop) (v : Option Claim) : (s.setClaim d v).frame = s.frame := rfl
@[simp] theorem setClaim_baseTick (d : Drop) (v : Option Claim) : (s.setClaim d v).baseTick = s.baseTick := rfl
@[simp] theorem setClaim_slots (d : Drop) (v : Option Claim) : (s.setClaim d v).slots = s.slots := rfl
@[simp] theorem setClaim_header (d : Drop) (v : Option Claim) : (s.setClaim d v).header = s.header := rfl
@[simp] theorem setClaim_images (d : Drop) (v : Option Claim) : (s.setClaim d v).images = s.images := rfl
@[simp] theorem setClaim_headerImage (d : Drop) (v : Option Claim) : (s.setClaim d v).headerImage = s.headerImage := rfl
@[simp] theorem setClaim_nextSeq (d : Drop) (v : Option Claim) : (s.setClaim d v).nextSeq = s.nextSeq := rfl
@[simp] theorem setClaim_controller (d : Drop) (v : Option Claim) : (s.setClaim d v).controller = s.controller := rfl
@[simp] theorem setClaim_port (d : Drop) (v : Option Claim) (p' : Port) : (s.setClaim d v).port p' = s.port p' := rfl
@[simp] theorem setClaim_lane (d : Drop) (v : Option Claim) (b' : Branch) : (s.setClaim d v).lane b' = s.lane b' := rfl
@[simp] theorem setClaim_entry (d : Drop) (v : Option Claim) (d' : Drop) : (s.setClaim d v).entry d' = s.entry d' := rfl
@[simp] theorem setClaim_branch (d : Drop) (v : Option Claim) (b' : Branch) : (s.setClaim d v).branch b' = s.branch b' := rfl
@[simp] theorem setClaim_queue (d : Drop) (v : Option Claim) (b' : Branch) : (s.setClaim d v).queue b' = s.queue b' := rfl
@[simp] theorem setClaim_arrivalsOf (d : Drop) (v : Option Claim) (b' : Branch) : (s.setClaim d v).arrivalsOf b' = s.arrivalsOf b' := rfl
@[simp] theorem setClaim_gen (d : Drop) (v : Option Claim) (g' : Gen) : (s.setClaim d v).gen g' = s.gen g' := rfl
@[simp] theorem setClaim_slot (d : Drop) (v : Option Claim) (d' : Drop) : (s.setClaim d v).slot d' = s.slot d' := rfl
@[simp] theorem setClaim_image (d : Drop) (v : Option Claim) (d' : Drop) : (s.setClaim d v).image d' = s.image d' := rfl

/-! setBranch -/

@[simp] theorem setBranch_pending (b : Branch) (v : BranchCtl) : (s.setBranch b v).pending = s.pending := rfl
@[simp] theorem setBranch_startup (b : Branch) (v : BranchCtl) : (s.setBranch b v).startup = s.startup := rfl
@[simp] theorem setBranch_powerOnHold (b : Branch) (v : BranchCtl) : (s.setBranch b v).powerOnHold = s.powerOnHold := rfl
@[simp] theorem setBranch_supplyHold (b : Branch) (v : BranchCtl) : (s.setBranch b v).supplyHold = s.supplyHold := rfl
@[simp] theorem setBranch_pinHold (b : Branch) (v : BranchCtl) : (s.setBranch b v).pinHold = s.pinHold := rfl
@[simp] theorem setBranch_keepThresholds (b : Branch) (v : BranchCtl) : (s.setBranch b v).keepThresholds = s.keepThresholds := rfl
@[simp] theorem setBranch_restart (b : Branch) (v : BranchCtl) : (s.setBranch b v).restart = s.restart := rfl
@[simp] theorem setBranch_supply (b : Branch) (v : BranchCtl) : (s.setBranch b v).supply = s.supply := rfl
@[simp] theorem setBranch_monitor (b : Branch) (v : BranchCtl) : (s.setBranch b v).monitor = s.monitor := rfl
@[simp] theorem setBranch_mode (b : Branch) (v : BranchCtl) : (s.setBranch b v).mode = s.mode := rfl
@[simp] theorem setBranch_resume (b : Branch) (v : BranchCtl) : (s.setBranch b v).resume = s.resume := rfl
@[simp] theorem setBranch_settings (b : Branch) (v : BranchCtl) : (s.setBranch b v).settings = s.settings := rfl
@[simp] theorem setBranch_estateId (b : Branch) (v : BranchCtl) : (s.setBranch b v).estateId = s.estateId := rfl
@[simp] theorem setBranch_unsaved (b : Branch) (v : BranchCtl) : (s.setBranch b v).unsaved = s.unsaved := rfl
@[simp] theorem setBranch_ports (b : Branch) (v : BranchCtl) : (s.setBranch b v).ports = s.ports := rfl
@[simp] theorem setBranch_roster (b : Branch) (v : BranchCtl) : (s.setBranch b v).roster = s.roster := rfl
@[simp] theorem setBranch_claims (b : Branch) (v : BranchCtl) : (s.setBranch b v).claims = s.claims := rfl
@[simp] theorem setBranch_lapses (b : Branch) (v : BranchCtl) : (s.setBranch b v).lapses = s.lapses := rfl
@[simp] theorem setBranch_lanes (b : Branch) (v : BranchCtl) : (s.setBranch b v).lanes = s.lanes := rfl
@[simp] theorem setBranch_arrivals (b : Branch) (v : BranchCtl) : (s.setBranch b v).arrivals = s.arrivals := rfl
@[simp] theorem setBranch_ageLimitRead (b : Branch) (v : BranchCtl) : (s.setBranch b v).ageLimitRead = s.ageLimitRead := rfl
@[simp] theorem setBranch_unknown (b : Branch) (v : BranchCtl) : (s.setBranch b v).unknown = s.unknown := rfl
@[simp] theorem setBranch_generators (b : Branch) (v : BranchCtl) : (s.setBranch b v).generators = s.generators := rfl
@[simp] theorem setBranch_lastServed (b : Branch) (v : BranchCtl) : (s.setBranch b v).lastServed = s.lastServed := rfl
@[simp] theorem setBranch_frame (b : Branch) (v : BranchCtl) : (s.setBranch b v).frame = s.frame := rfl
@[simp] theorem setBranch_baseTick (b : Branch) (v : BranchCtl) : (s.setBranch b v).baseTick = s.baseTick := rfl
@[simp] theorem setBranch_slots (b : Branch) (v : BranchCtl) : (s.setBranch b v).slots = s.slots := rfl
@[simp] theorem setBranch_header (b : Branch) (v : BranchCtl) : (s.setBranch b v).header = s.header := rfl
@[simp] theorem setBranch_images (b : Branch) (v : BranchCtl) : (s.setBranch b v).images = s.images := rfl
@[simp] theorem setBranch_headerImage (b : Branch) (v : BranchCtl) : (s.setBranch b v).headerImage = s.headerImage := rfl
@[simp] theorem setBranch_nextSeq (b : Branch) (v : BranchCtl) : (s.setBranch b v).nextSeq = s.nextSeq := rfl
@[simp] theorem setBranch_controller (b : Branch) (v : BranchCtl) : (s.setBranch b v).controller = s.controller := rfl
@[simp] theorem setBranch_port (b : Branch) (v : BranchCtl) (p' : Port) : (s.setBranch b v).port p' = s.port p' := rfl
@[simp] theorem setBranch_lane (b : Branch) (v : BranchCtl) (b' : Branch) : (s.setBranch b v).lane b' = s.lane b' := rfl
@[simp] theorem setBranch_entry (b : Branch) (v : BranchCtl) (d' : Drop) : (s.setBranch b v).entry d' = s.entry d' := rfl
@[simp] theorem setBranch_claim (b : Branch) (v : BranchCtl) (d' : Drop) : (s.setBranch b v).claim d' = s.claim d' := rfl
@[simp] theorem setBranch_arrivalsOf (b : Branch) (v : BranchCtl) (b' : Branch) : (s.setBranch b v).arrivalsOf b' = s.arrivalsOf b' := rfl
@[simp] theorem setBranch_gen (b : Branch) (v : BranchCtl) (g' : Gen) : (s.setBranch b v).gen g' = s.gen g' := rfl
@[simp] theorem setBranch_slot (b : Branch) (v : BranchCtl) (d' : Drop) : (s.setBranch b v).slot d' = s.slot d' := rfl
@[simp] theorem setBranch_image (b : Branch) (v : BranchCtl) (d' : Drop) : (s.setBranch b v).image d' = s.image d' := rfl

/-! setQueue -/

@[simp] theorem setQueue_pending (b : Branch) (v : List Job) : (s.setQueue b v).pending = s.pending := rfl
@[simp] theorem setQueue_startup (b : Branch) (v : List Job) : (s.setQueue b v).startup = s.startup := rfl
@[simp] theorem setQueue_powerOnHold (b : Branch) (v : List Job) : (s.setQueue b v).powerOnHold = s.powerOnHold := rfl
@[simp] theorem setQueue_supplyHold (b : Branch) (v : List Job) : (s.setQueue b v).supplyHold = s.supplyHold := rfl
@[simp] theorem setQueue_pinHold (b : Branch) (v : List Job) : (s.setQueue b v).pinHold = s.pinHold := rfl
@[simp] theorem setQueue_keepThresholds (b : Branch) (v : List Job) : (s.setQueue b v).keepThresholds = s.keepThresholds := rfl
@[simp] theorem setQueue_restart (b : Branch) (v : List Job) : (s.setQueue b v).restart = s.restart := rfl
@[simp] theorem setQueue_supply (b : Branch) (v : List Job) : (s.setQueue b v).supply = s.supply := rfl
@[simp] theorem setQueue_monitor (b : Branch) (v : List Job) : (s.setQueue b v).monitor = s.monitor := rfl
@[simp] theorem setQueue_mode (b : Branch) (v : List Job) : (s.setQueue b v).mode = s.mode := rfl
@[simp] theorem setQueue_resume (b : Branch) (v : List Job) : (s.setQueue b v).resume = s.resume := rfl
@[simp] theorem setQueue_settings (b : Branch) (v : List Job) : (s.setQueue b v).settings = s.settings := rfl
@[simp] theorem setQueue_estateId (b : Branch) (v : List Job) : (s.setQueue b v).estateId = s.estateId := rfl
@[simp] theorem setQueue_unsaved (b : Branch) (v : List Job) : (s.setQueue b v).unsaved = s.unsaved := rfl
@[simp] theorem setQueue_ports (b : Branch) (v : List Job) : (s.setQueue b v).ports = s.ports := rfl
@[simp] theorem setQueue_roster (b : Branch) (v : List Job) : (s.setQueue b v).roster = s.roster := rfl
@[simp] theorem setQueue_claims (b : Branch) (v : List Job) : (s.setQueue b v).claims = s.claims := rfl
@[simp] theorem setQueue_lapses (b : Branch) (v : List Job) : (s.setQueue b v).lapses = s.lapses := rfl
@[simp] theorem setQueue_lanes (b : Branch) (v : List Job) : (s.setQueue b v).lanes = s.lanes := rfl
@[simp] theorem setQueue_arrivals (b : Branch) (v : List Job) : (s.setQueue b v).arrivals = s.arrivals := rfl
@[simp] theorem setQueue_ageLimitRead (b : Branch) (v : List Job) : (s.setQueue b v).ageLimitRead = s.ageLimitRead := rfl
@[simp] theorem setQueue_unknown (b : Branch) (v : List Job) : (s.setQueue b v).unknown = s.unknown := rfl
@[simp] theorem setQueue_generators (b : Branch) (v : List Job) : (s.setQueue b v).generators = s.generators := rfl
@[simp] theorem setQueue_lastServed (b : Branch) (v : List Job) : (s.setQueue b v).lastServed = s.lastServed := rfl
@[simp] theorem setQueue_frame (b : Branch) (v : List Job) : (s.setQueue b v).frame = s.frame := rfl
@[simp] theorem setQueue_baseTick (b : Branch) (v : List Job) : (s.setQueue b v).baseTick = s.baseTick := rfl
@[simp] theorem setQueue_slots (b : Branch) (v : List Job) : (s.setQueue b v).slots = s.slots := rfl
@[simp] theorem setQueue_header (b : Branch) (v : List Job) : (s.setQueue b v).header = s.header := rfl
@[simp] theorem setQueue_images (b : Branch) (v : List Job) : (s.setQueue b v).images = s.images := rfl
@[simp] theorem setQueue_headerImage (b : Branch) (v : List Job) : (s.setQueue b v).headerImage = s.headerImage := rfl
@[simp] theorem setQueue_nextSeq (b : Branch) (v : List Job) : (s.setQueue b v).nextSeq = s.nextSeq := rfl
@[simp] theorem setQueue_controller (b : Branch) (v : List Job) : (s.setQueue b v).controller = s.controller := rfl
@[simp] theorem setQueue_port (b : Branch) (v : List Job) (p' : Port) : (s.setQueue b v).port p' = s.port p' := rfl
@[simp] theorem setQueue_lane (b : Branch) (v : List Job) (b' : Branch) : (s.setQueue b v).lane b' = s.lane b' := rfl
@[simp] theorem setQueue_entry (b : Branch) (v : List Job) (d' : Drop) : (s.setQueue b v).entry d' = s.entry d' := rfl
@[simp] theorem setQueue_claim (b : Branch) (v : List Job) (d' : Drop) : (s.setQueue b v).claim d' = s.claim d' := rfl
@[simp] theorem setQueue_arrivalsOf (b : Branch) (v : List Job) (b' : Branch) : (s.setQueue b v).arrivalsOf b' = s.arrivalsOf b' := rfl
@[simp] theorem setQueue_gen (b : Branch) (v : List Job) (g' : Gen) : (s.setQueue b v).gen g' = s.gen g' := rfl
@[simp] theorem setQueue_slot (b : Branch) (v : List Job) (d' : Drop) : (s.setQueue b v).slot d' = s.slot d' := rfl
@[simp] theorem setQueue_image (b : Branch) (v : List Job) (d' : Drop) : (s.setQueue b v).image d' = s.image d' := rfl

/-! setArrivals -/

@[simp] theorem setArrivals_pending (b : Branch) (v : ArrivalsList) : (s.setArrivals b v).pending = s.pending := rfl
@[simp] theorem setArrivals_startup (b : Branch) (v : ArrivalsList) : (s.setArrivals b v).startup = s.startup := rfl
@[simp] theorem setArrivals_powerOnHold (b : Branch) (v : ArrivalsList) : (s.setArrivals b v).powerOnHold = s.powerOnHold := rfl
@[simp] theorem setArrivals_supplyHold (b : Branch) (v : ArrivalsList) : (s.setArrivals b v).supplyHold = s.supplyHold := rfl
@[simp] theorem setArrivals_pinHold (b : Branch) (v : ArrivalsList) : (s.setArrivals b v).pinHold = s.pinHold := rfl
@[simp] theorem setArrivals_keepThresholds (b : Branch) (v : ArrivalsList) : (s.setArrivals b v).keepThresholds = s.keepThresholds := rfl
@[simp] theorem setArrivals_restart (b : Branch) (v : ArrivalsList) : (s.setArrivals b v).restart = s.restart := rfl
@[simp] theorem setArrivals_supply (b : Branch) (v : ArrivalsList) : (s.setArrivals b v).supply = s.supply := rfl
@[simp] theorem setArrivals_monitor (b : Branch) (v : ArrivalsList) : (s.setArrivals b v).monitor = s.monitor := rfl
@[simp] theorem setArrivals_mode (b : Branch) (v : ArrivalsList) : (s.setArrivals b v).mode = s.mode := rfl
@[simp] theorem setArrivals_resume (b : Branch) (v : ArrivalsList) : (s.setArrivals b v).resume = s.resume := rfl
@[simp] theorem setArrivals_settings (b : Branch) (v : ArrivalsList) : (s.setArrivals b v).settings = s.settings := rfl
@[simp] theorem setArrivals_estateId (b : Branch) (v : ArrivalsList) : (s.setArrivals b v).estateId = s.estateId := rfl
@[simp] theorem setArrivals_unsaved (b : Branch) (v : ArrivalsList) : (s.setArrivals b v).unsaved = s.unsaved := rfl
@[simp] theorem setArrivals_ports (b : Branch) (v : ArrivalsList) : (s.setArrivals b v).ports = s.ports := rfl
@[simp] theorem setArrivals_roster (b : Branch) (v : ArrivalsList) : (s.setArrivals b v).roster = s.roster := rfl
@[simp] theorem setArrivals_claims (b : Branch) (v : ArrivalsList) : (s.setArrivals b v).claims = s.claims := rfl
@[simp] theorem setArrivals_lapses (b : Branch) (v : ArrivalsList) : (s.setArrivals b v).lapses = s.lapses := rfl
@[simp] theorem setArrivals_branches (b : Branch) (v : ArrivalsList) : (s.setArrivals b v).branches = s.branches := rfl
@[simp] theorem setArrivals_lanes (b : Branch) (v : ArrivalsList) : (s.setArrivals b v).lanes = s.lanes := rfl
@[simp] theorem setArrivals_ageLimitRead (b : Branch) (v : ArrivalsList) : (s.setArrivals b v).ageLimitRead = s.ageLimitRead := rfl
@[simp] theorem setArrivals_unknown (b : Branch) (v : ArrivalsList) : (s.setArrivals b v).unknown = s.unknown := rfl
@[simp] theorem setArrivals_generators (b : Branch) (v : ArrivalsList) : (s.setArrivals b v).generators = s.generators := rfl
@[simp] theorem setArrivals_lastServed (b : Branch) (v : ArrivalsList) : (s.setArrivals b v).lastServed = s.lastServed := rfl
@[simp] theorem setArrivals_frame (b : Branch) (v : ArrivalsList) : (s.setArrivals b v).frame = s.frame := rfl
@[simp] theorem setArrivals_baseTick (b : Branch) (v : ArrivalsList) : (s.setArrivals b v).baseTick = s.baseTick := rfl
@[simp] theorem setArrivals_slots (b : Branch) (v : ArrivalsList) : (s.setArrivals b v).slots = s.slots := rfl
@[simp] theorem setArrivals_header (b : Branch) (v : ArrivalsList) : (s.setArrivals b v).header = s.header := rfl
@[simp] theorem setArrivals_images (b : Branch) (v : ArrivalsList) : (s.setArrivals b v).images = s.images := rfl
@[simp] theorem setArrivals_headerImage (b : Branch) (v : ArrivalsList) : (s.setArrivals b v).headerImage = s.headerImage := rfl
@[simp] theorem setArrivals_nextSeq (b : Branch) (v : ArrivalsList) : (s.setArrivals b v).nextSeq = s.nextSeq := rfl
@[simp] theorem setArrivals_controller (b : Branch) (v : ArrivalsList) : (s.setArrivals b v).controller = s.controller := rfl
@[simp] theorem setArrivals_port (b : Branch) (v : ArrivalsList) (p' : Port) : (s.setArrivals b v).port p' = s.port p' := rfl
@[simp] theorem setArrivals_lane (b : Branch) (v : ArrivalsList) (b' : Branch) : (s.setArrivals b v).lane b' = s.lane b' := rfl
@[simp] theorem setArrivals_entry (b : Branch) (v : ArrivalsList) (d' : Drop) : (s.setArrivals b v).entry d' = s.entry d' := rfl
@[simp] theorem setArrivals_claim (b : Branch) (v : ArrivalsList) (d' : Drop) : (s.setArrivals b v).claim d' = s.claim d' := rfl
@[simp] theorem setArrivals_branch (b : Branch) (v : ArrivalsList) (b' : Branch) : (s.setArrivals b v).branch b' = s.branch b' := rfl
@[simp] theorem setArrivals_queue (b : Branch) (v : ArrivalsList) (b' : Branch) : (s.setArrivals b v).queue b' = s.queue b' := rfl
@[simp] theorem setArrivals_gen (b : Branch) (v : ArrivalsList) (g' : Gen) : (s.setArrivals b v).gen g' = s.gen g' := rfl
@[simp] theorem setArrivals_slot (b : Branch) (v : ArrivalsList) (d' : Drop) : (s.setArrivals b v).slot d' = s.slot d' := rfl
@[simp] theorem setArrivals_image (b : Branch) (v : ArrivalsList) (d' : Drop) : (s.setArrivals b v).image d' = s.image d' := rfl

/-! setGen -/

@[simp] theorem setGen_pending (g : Gen) (v : Generator) : (s.setGen g v).pending = s.pending := rfl
@[simp] theorem setGen_startup (g : Gen) (v : Generator) : (s.setGen g v).startup = s.startup := rfl
@[simp] theorem setGen_powerOnHold (g : Gen) (v : Generator) : (s.setGen g v).powerOnHold = s.powerOnHold := rfl
@[simp] theorem setGen_supplyHold (g : Gen) (v : Generator) : (s.setGen g v).supplyHold = s.supplyHold := rfl
@[simp] theorem setGen_pinHold (g : Gen) (v : Generator) : (s.setGen g v).pinHold = s.pinHold := rfl
@[simp] theorem setGen_keepThresholds (g : Gen) (v : Generator) : (s.setGen g v).keepThresholds = s.keepThresholds := rfl
@[simp] theorem setGen_restart (g : Gen) (v : Generator) : (s.setGen g v).restart = s.restart := rfl
@[simp] theorem setGen_supply (g : Gen) (v : Generator) : (s.setGen g v).supply = s.supply := rfl
@[simp] theorem setGen_monitor (g : Gen) (v : Generator) : (s.setGen g v).monitor = s.monitor := rfl
@[simp] theorem setGen_mode (g : Gen) (v : Generator) : (s.setGen g v).mode = s.mode := rfl
@[simp] theorem setGen_resume (g : Gen) (v : Generator) : (s.setGen g v).resume = s.resume := rfl
@[simp] theorem setGen_settings (g : Gen) (v : Generator) : (s.setGen g v).settings = s.settings := rfl
@[simp] theorem setGen_estateId (g : Gen) (v : Generator) : (s.setGen g v).estateId = s.estateId := rfl
@[simp] theorem setGen_unsaved (g : Gen) (v : Generator) : (s.setGen g v).unsaved = s.unsaved := rfl
@[simp] theorem setGen_ports (g : Gen) (v : Generator) : (s.setGen g v).ports = s.ports := rfl
@[simp] theorem setGen_roster (g : Gen) (v : Generator) : (s.setGen g v).roster = s.roster := rfl
@[simp] theorem setGen_claims (g : Gen) (v : Generator) : (s.setGen g v).claims = s.claims := rfl
@[simp] theorem setGen_lapses (g : Gen) (v : Generator) : (s.setGen g v).lapses = s.lapses := rfl
@[simp] theorem setGen_branches (g : Gen) (v : Generator) : (s.setGen g v).branches = s.branches := rfl
@[simp] theorem setGen_lanes (g : Gen) (v : Generator) : (s.setGen g v).lanes = s.lanes := rfl
@[simp] theorem setGen_arrivals (g : Gen) (v : Generator) : (s.setGen g v).arrivals = s.arrivals := rfl
@[simp] theorem setGen_ageLimitRead (g : Gen) (v : Generator) : (s.setGen g v).ageLimitRead = s.ageLimitRead := rfl
@[simp] theorem setGen_unknown (g : Gen) (v : Generator) : (s.setGen g v).unknown = s.unknown := rfl
@[simp] theorem setGen_lastServed (g : Gen) (v : Generator) : (s.setGen g v).lastServed = s.lastServed := rfl
@[simp] theorem setGen_frame (g : Gen) (v : Generator) : (s.setGen g v).frame = s.frame := rfl
@[simp] theorem setGen_baseTick (g : Gen) (v : Generator) : (s.setGen g v).baseTick = s.baseTick := rfl
@[simp] theorem setGen_slots (g : Gen) (v : Generator) : (s.setGen g v).slots = s.slots := rfl
@[simp] theorem setGen_header (g : Gen) (v : Generator) : (s.setGen g v).header = s.header := rfl
@[simp] theorem setGen_images (g : Gen) (v : Generator) : (s.setGen g v).images = s.images := rfl
@[simp] theorem setGen_headerImage (g : Gen) (v : Generator) : (s.setGen g v).headerImage = s.headerImage := rfl
@[simp] theorem setGen_nextSeq (g : Gen) (v : Generator) : (s.setGen g v).nextSeq = s.nextSeq := rfl
@[simp] theorem setGen_controller (g : Gen) (v : Generator) : (s.setGen g v).controller = s.controller := rfl
@[simp] theorem setGen_port (g : Gen) (v : Generator) (p' : Port) : (s.setGen g v).port p' = s.port p' := rfl
@[simp] theorem setGen_lane (g : Gen) (v : Generator) (b' : Branch) : (s.setGen g v).lane b' = s.lane b' := rfl
@[simp] theorem setGen_entry (g : Gen) (v : Generator) (d' : Drop) : (s.setGen g v).entry d' = s.entry d' := rfl
@[simp] theorem setGen_claim (g : Gen) (v : Generator) (d' : Drop) : (s.setGen g v).claim d' = s.claim d' := rfl
@[simp] theorem setGen_branch (g : Gen) (v : Generator) (b' : Branch) : (s.setGen g v).branch b' = s.branch b' := rfl
@[simp] theorem setGen_queue (g : Gen) (v : Generator) (b' : Branch) : (s.setGen g v).queue b' = s.queue b' := rfl
@[simp] theorem setGen_arrivalsOf (g : Gen) (v : Generator) (b' : Branch) : (s.setGen g v).arrivalsOf b' = s.arrivalsOf b' := rfl
@[simp] theorem setGen_slot (g : Gen) (v : Generator) (d' : Drop) : (s.setGen g v).slot d' = s.slot d' := rfl
@[simp] theorem setGen_image (g : Gen) (v : Generator) (d' : Drop) : (s.setGen g v).image d' = s.image d' := rfl

/-! setSlot -/

@[simp] theorem setSlot_pending (d : Drop) (v : StoreRecord) : (s.setSlot d v).pending = s.pending := rfl
@[simp] theorem setSlot_startup (d : Drop) (v : StoreRecord) : (s.setSlot d v).startup = s.startup := rfl
@[simp] theorem setSlot_powerOnHold (d : Drop) (v : StoreRecord) : (s.setSlot d v).powerOnHold = s.powerOnHold := rfl
@[simp] theorem setSlot_supplyHold (d : Drop) (v : StoreRecord) : (s.setSlot d v).supplyHold = s.supplyHold := rfl
@[simp] theorem setSlot_pinHold (d : Drop) (v : StoreRecord) : (s.setSlot d v).pinHold = s.pinHold := rfl
@[simp] theorem setSlot_keepThresholds (d : Drop) (v : StoreRecord) : (s.setSlot d v).keepThresholds = s.keepThresholds := rfl
@[simp] theorem setSlot_restart (d : Drop) (v : StoreRecord) : (s.setSlot d v).restart = s.restart := rfl
@[simp] theorem setSlot_supply (d : Drop) (v : StoreRecord) : (s.setSlot d v).supply = s.supply := rfl
@[simp] theorem setSlot_monitor (d : Drop) (v : StoreRecord) : (s.setSlot d v).monitor = s.monitor := rfl
@[simp] theorem setSlot_mode (d : Drop) (v : StoreRecord) : (s.setSlot d v).mode = s.mode := rfl
@[simp] theorem setSlot_resume (d : Drop) (v : StoreRecord) : (s.setSlot d v).resume = s.resume := rfl
@[simp] theorem setSlot_settings (d : Drop) (v : StoreRecord) : (s.setSlot d v).settings = s.settings := rfl
@[simp] theorem setSlot_estateId (d : Drop) (v : StoreRecord) : (s.setSlot d v).estateId = s.estateId := rfl
@[simp] theorem setSlot_unsaved (d : Drop) (v : StoreRecord) : (s.setSlot d v).unsaved = s.unsaved := rfl
@[simp] theorem setSlot_ports (d : Drop) (v : StoreRecord) : (s.setSlot d v).ports = s.ports := rfl
@[simp] theorem setSlot_roster (d : Drop) (v : StoreRecord) : (s.setSlot d v).roster = s.roster := rfl
@[simp] theorem setSlot_claims (d : Drop) (v : StoreRecord) : (s.setSlot d v).claims = s.claims := rfl
@[simp] theorem setSlot_lapses (d : Drop) (v : StoreRecord) : (s.setSlot d v).lapses = s.lapses := rfl
@[simp] theorem setSlot_branches (d : Drop) (v : StoreRecord) : (s.setSlot d v).branches = s.branches := rfl
@[simp] theorem setSlot_lanes (d : Drop) (v : StoreRecord) : (s.setSlot d v).lanes = s.lanes := rfl
@[simp] theorem setSlot_arrivals (d : Drop) (v : StoreRecord) : (s.setSlot d v).arrivals = s.arrivals := rfl
@[simp] theorem setSlot_ageLimitRead (d : Drop) (v : StoreRecord) : (s.setSlot d v).ageLimitRead = s.ageLimitRead := rfl
@[simp] theorem setSlot_unknown (d : Drop) (v : StoreRecord) : (s.setSlot d v).unknown = s.unknown := rfl
@[simp] theorem setSlot_generators (d : Drop) (v : StoreRecord) : (s.setSlot d v).generators = s.generators := rfl
@[simp] theorem setSlot_lastServed (d : Drop) (v : StoreRecord) : (s.setSlot d v).lastServed = s.lastServed := rfl
@[simp] theorem setSlot_frame (d : Drop) (v : StoreRecord) : (s.setSlot d v).frame = s.frame := rfl
@[simp] theorem setSlot_baseTick (d : Drop) (v : StoreRecord) : (s.setSlot d v).baseTick = s.baseTick := rfl
@[simp] theorem setSlot_header (d : Drop) (v : StoreRecord) : (s.setSlot d v).header = s.header := rfl
@[simp] theorem setSlot_images (d : Drop) (v : StoreRecord) : (s.setSlot d v).images = s.images := rfl
@[simp] theorem setSlot_headerImage (d : Drop) (v : StoreRecord) : (s.setSlot d v).headerImage = s.headerImage := rfl
@[simp] theorem setSlot_nextSeq (d : Drop) (v : StoreRecord) : (s.setSlot d v).nextSeq = s.nextSeq := rfl
@[simp] theorem setSlot_controller (d : Drop) (v : StoreRecord) : (s.setSlot d v).controller = s.controller := rfl
@[simp] theorem setSlot_port (d : Drop) (v : StoreRecord) (p' : Port) : (s.setSlot d v).port p' = s.port p' := rfl
@[simp] theorem setSlot_lane (d : Drop) (v : StoreRecord) (b' : Branch) : (s.setSlot d v).lane b' = s.lane b' := rfl
@[simp] theorem setSlot_entry (d : Drop) (v : StoreRecord) (d' : Drop) : (s.setSlot d v).entry d' = s.entry d' := rfl
@[simp] theorem setSlot_claim (d : Drop) (v : StoreRecord) (d' : Drop) : (s.setSlot d v).claim d' = s.claim d' := rfl
@[simp] theorem setSlot_branch (d : Drop) (v : StoreRecord) (b' : Branch) : (s.setSlot d v).branch b' = s.branch b' := rfl
@[simp] theorem setSlot_queue (d : Drop) (v : StoreRecord) (b' : Branch) : (s.setSlot d v).queue b' = s.queue b' := rfl
@[simp] theorem setSlot_arrivalsOf (d : Drop) (v : StoreRecord) (b' : Branch) : (s.setSlot d v).arrivalsOf b' = s.arrivalsOf b' := rfl
@[simp] theorem setSlot_gen (d : Drop) (v : StoreRecord) (g' : Gen) : (s.setSlot d v).gen g' = s.gen g' := rfl
@[simp] theorem setSlot_image (d : Drop) (v : StoreRecord) (d' : Drop) : (s.setSlot d v).image d' = s.image d' := rfl

/-! setImage -/

@[simp] theorem setImage_pending (d : Drop) (v : SlotImage) : (s.setImage d v).pending = s.pending := rfl
@[simp] theorem setImage_startup (d : Drop) (v : SlotImage) : (s.setImage d v).startup = s.startup := rfl
@[simp] theorem setImage_powerOnHold (d : Drop) (v : SlotImage) : (s.setImage d v).powerOnHold = s.powerOnHold := rfl
@[simp] theorem setImage_supplyHold (d : Drop) (v : SlotImage) : (s.setImage d v).supplyHold = s.supplyHold := rfl
@[simp] theorem setImage_pinHold (d : Drop) (v : SlotImage) : (s.setImage d v).pinHold = s.pinHold := rfl
@[simp] theorem setImage_keepThresholds (d : Drop) (v : SlotImage) : (s.setImage d v).keepThresholds = s.keepThresholds := rfl
@[simp] theorem setImage_restart (d : Drop) (v : SlotImage) : (s.setImage d v).restart = s.restart := rfl
@[simp] theorem setImage_supply (d : Drop) (v : SlotImage) : (s.setImage d v).supply = s.supply := rfl
@[simp] theorem setImage_monitor (d : Drop) (v : SlotImage) : (s.setImage d v).monitor = s.monitor := rfl
@[simp] theorem setImage_mode (d : Drop) (v : SlotImage) : (s.setImage d v).mode = s.mode := rfl
@[simp] theorem setImage_resume (d : Drop) (v : SlotImage) : (s.setImage d v).resume = s.resume := rfl
@[simp] theorem setImage_settings (d : Drop) (v : SlotImage) : (s.setImage d v).settings = s.settings := rfl
@[simp] theorem setImage_estateId (d : Drop) (v : SlotImage) : (s.setImage d v).estateId = s.estateId := rfl
@[simp] theorem setImage_unsaved (d : Drop) (v : SlotImage) : (s.setImage d v).unsaved = s.unsaved := rfl
@[simp] theorem setImage_ports (d : Drop) (v : SlotImage) : (s.setImage d v).ports = s.ports := rfl
@[simp] theorem setImage_roster (d : Drop) (v : SlotImage) : (s.setImage d v).roster = s.roster := rfl
@[simp] theorem setImage_claims (d : Drop) (v : SlotImage) : (s.setImage d v).claims = s.claims := rfl
@[simp] theorem setImage_lapses (d : Drop) (v : SlotImage) : (s.setImage d v).lapses = s.lapses := rfl
@[simp] theorem setImage_branches (d : Drop) (v : SlotImage) : (s.setImage d v).branches = s.branches := rfl
@[simp] theorem setImage_lanes (d : Drop) (v : SlotImage) : (s.setImage d v).lanes = s.lanes := rfl
@[simp] theorem setImage_arrivals (d : Drop) (v : SlotImage) : (s.setImage d v).arrivals = s.arrivals := rfl
@[simp] theorem setImage_ageLimitRead (d : Drop) (v : SlotImage) : (s.setImage d v).ageLimitRead = s.ageLimitRead := rfl
@[simp] theorem setImage_unknown (d : Drop) (v : SlotImage) : (s.setImage d v).unknown = s.unknown := rfl
@[simp] theorem setImage_generators (d : Drop) (v : SlotImage) : (s.setImage d v).generators = s.generators := rfl
@[simp] theorem setImage_lastServed (d : Drop) (v : SlotImage) : (s.setImage d v).lastServed = s.lastServed := rfl
@[simp] theorem setImage_frame (d : Drop) (v : SlotImage) : (s.setImage d v).frame = s.frame := rfl
@[simp] theorem setImage_baseTick (d : Drop) (v : SlotImage) : (s.setImage d v).baseTick = s.baseTick := rfl
@[simp] theorem setImage_slots (d : Drop) (v : SlotImage) : (s.setImage d v).slots = s.slots := rfl
@[simp] theorem setImage_header (d : Drop) (v : SlotImage) : (s.setImage d v).header = s.header := rfl
@[simp] theorem setImage_headerImage (d : Drop) (v : SlotImage) : (s.setImage d v).headerImage = s.headerImage := rfl
@[simp] theorem setImage_nextSeq (d : Drop) (v : SlotImage) : (s.setImage d v).nextSeq = s.nextSeq := rfl
@[simp] theorem setImage_controller (d : Drop) (v : SlotImage) : (s.setImage d v).controller = s.controller := rfl
@[simp] theorem setImage_port (d : Drop) (v : SlotImage) (p' : Port) : (s.setImage d v).port p' = s.port p' := rfl
@[simp] theorem setImage_lane (d : Drop) (v : SlotImage) (b' : Branch) : (s.setImage d v).lane b' = s.lane b' := rfl
@[simp] theorem setImage_entry (d : Drop) (v : SlotImage) (d' : Drop) : (s.setImage d v).entry d' = s.entry d' := rfl
@[simp] theorem setImage_claim (d : Drop) (v : SlotImage) (d' : Drop) : (s.setImage d v).claim d' = s.claim d' := rfl
@[simp] theorem setImage_branch (d : Drop) (v : SlotImage) (b' : Branch) : (s.setImage d v).branch b' = s.branch b' := rfl
@[simp] theorem setImage_queue (d : Drop) (v : SlotImage) (b' : Branch) : (s.setImage d v).queue b' = s.queue b' := rfl
@[simp] theorem setImage_arrivalsOf (d : Drop) (v : SlotImage) (b' : Branch) : (s.setImage d v).arrivalsOf b' = s.arrivalsOf b' := rfl
@[simp] theorem setImage_gen (d : Drop) (v : SlotImage) (g' : Gen) : (s.setImage d v).gen g' = s.gen g' := rfl
@[simp] theorem setImage_slot (d : Drop) (v : SlotImage) (d' : Drop) : (s.setImage d v).slot d' = s.slot d' := rfl

/-! raise -/

@[simp] theorem raise_pending (e : Event) : (s.raise e).pending = s.pending := rfl
@[simp] theorem raise_startup (e : Event) : (s.raise e).startup = s.startup := rfl
@[simp] theorem raise_powerOnHold (e : Event) : (s.raise e).powerOnHold = s.powerOnHold := rfl
@[simp] theorem raise_supplyHold (e : Event) : (s.raise e).supplyHold = s.supplyHold := rfl
@[simp] theorem raise_pinHold (e : Event) : (s.raise e).pinHold = s.pinHold := rfl
@[simp] theorem raise_keepThresholds (e : Event) : (s.raise e).keepThresholds = s.keepThresholds := rfl
@[simp] theorem raise_restart (e : Event) : (s.raise e).restart = s.restart := rfl
@[simp] theorem raise_supply (e : Event) : (s.raise e).supply = s.supply := rfl
@[simp] theorem raise_monitor (e : Event) : (s.raise e).monitor = s.monitor := rfl
@[simp] theorem raise_mode (e : Event) : (s.raise e).mode = s.mode := rfl
@[simp] theorem raise_resume (e : Event) : (s.raise e).resume = s.resume := rfl
@[simp] theorem raise_settings (e : Event) : (s.raise e).settings = s.settings := rfl
@[simp] theorem raise_estateId (e : Event) : (s.raise e).estateId = s.estateId := rfl
@[simp] theorem raise_unsaved (e : Event) : (s.raise e).unsaved = s.unsaved := rfl
@[simp] theorem raise_roster (e : Event) : (s.raise e).roster = s.roster := rfl
@[simp] theorem raise_claims (e : Event) : (s.raise e).claims = s.claims := rfl
@[simp] theorem raise_lapses (e : Event) : (s.raise e).lapses = s.lapses := rfl
@[simp] theorem raise_branches (e : Event) : (s.raise e).branches = s.branches := rfl
@[simp] theorem raise_lanes (e : Event) : (s.raise e).lanes = s.lanes := rfl
@[simp] theorem raise_arrivals (e : Event) : (s.raise e).arrivals = s.arrivals := rfl
@[simp] theorem raise_ageLimitRead (e : Event) : (s.raise e).ageLimitRead = s.ageLimitRead := rfl
@[simp] theorem raise_unknown (e : Event) : (s.raise e).unknown = s.unknown := rfl
@[simp] theorem raise_generators (e : Event) : (s.raise e).generators = s.generators := rfl
@[simp] theorem raise_lastServed (e : Event) : (s.raise e).lastServed = s.lastServed := rfl
@[simp] theorem raise_frame (e : Event) : (s.raise e).frame = s.frame := rfl
@[simp] theorem raise_baseTick (e : Event) : (s.raise e).baseTick = s.baseTick := rfl
@[simp] theorem raise_slots (e : Event) : (s.raise e).slots = s.slots := rfl
@[simp] theorem raise_header (e : Event) : (s.raise e).header = s.header := rfl
@[simp] theorem raise_images (e : Event) : (s.raise e).images = s.images := rfl
@[simp] theorem raise_headerImage (e : Event) : (s.raise e).headerImage = s.headerImage := rfl
@[simp] theorem raise_nextSeq (e : Event) : (s.raise e).nextSeq = s.nextSeq := rfl
@[simp] theorem raise_controller (e : Event) : (s.raise e).controller = s.controller := rfl
@[simp] theorem raise_lane (e : Event) (b' : Branch) : (s.raise e).lane b' = s.lane b' := rfl
@[simp] theorem raise_entry (e : Event) (d' : Drop) : (s.raise e).entry d' = s.entry d' := rfl
@[simp] theorem raise_claim (e : Event) (d' : Drop) : (s.raise e).claim d' = s.claim d' := rfl
@[simp] theorem raise_branch (e : Event) (b' : Branch) : (s.raise e).branch b' = s.branch b' := rfl
@[simp] theorem raise_queue (e : Event) (b' : Branch) : (s.raise e).queue b' = s.queue b' := rfl
@[simp] theorem raise_arrivalsOf (e : Event) (b' : Branch) : (s.raise e).arrivalsOf b' = s.arrivalsOf b' := rfl
@[simp] theorem raise_gen (e : Event) (g' : Gen) : (s.raise e).gen g' = s.gen g' := rfl
@[simp] theorem raise_slot (e : Event) (d' : Drop) : (s.raise e).slot d' = s.slot d' := rfl
@[simp] theorem raise_image (e : Event) (d' : Drop) : (s.raise e).image d' = s.image d' := rfl

/-! sendCall -/

@[simp] theorem sendCall_pending (b : Branch) (c : Call) : (s.sendCall b c).pending = s.pending := rfl
@[simp] theorem sendCall_startup (b : Branch) (c : Call) : (s.sendCall b c).startup = s.startup := rfl
@[simp] theorem sendCall_powerOnHold (b : Branch) (c : Call) : (s.sendCall b c).powerOnHold = s.powerOnHold := rfl
@[simp] theorem sendCall_supplyHold (b : Branch) (c : Call) : (s.sendCall b c).supplyHold = s.supplyHold := rfl
@[simp] theorem sendCall_pinHold (b : Branch) (c : Call) : (s.sendCall b c).pinHold = s.pinHold := rfl
@[simp] theorem sendCall_keepThresholds (b : Branch) (c : Call) : (s.sendCall b c).keepThresholds = s.keepThresholds := rfl
@[simp] theorem sendCall_restart (b : Branch) (c : Call) : (s.sendCall b c).restart = s.restart := rfl
@[simp] theorem sendCall_supply (b : Branch) (c : Call) : (s.sendCall b c).supply = s.supply := rfl
@[simp] theorem sendCall_monitor (b : Branch) (c : Call) : (s.sendCall b c).monitor = s.monitor := rfl
@[simp] theorem sendCall_mode (b : Branch) (c : Call) : (s.sendCall b c).mode = s.mode := rfl
@[simp] theorem sendCall_resume (b : Branch) (c : Call) : (s.sendCall b c).resume = s.resume := rfl
@[simp] theorem sendCall_settings (b : Branch) (c : Call) : (s.sendCall b c).settings = s.settings := rfl
@[simp] theorem sendCall_estateId (b : Branch) (c : Call) : (s.sendCall b c).estateId = s.estateId := rfl
@[simp] theorem sendCall_unsaved (b : Branch) (c : Call) : (s.sendCall b c).unsaved = s.unsaved := rfl
@[simp] theorem sendCall_ports (b : Branch) (c : Call) : (s.sendCall b c).ports = s.ports := rfl
@[simp] theorem sendCall_roster (b : Branch) (c : Call) : (s.sendCall b c).roster = s.roster := rfl
@[simp] theorem sendCall_claims (b : Branch) (c : Call) : (s.sendCall b c).claims = s.claims := rfl
@[simp] theorem sendCall_lapses (b : Branch) (c : Call) : (s.sendCall b c).lapses = s.lapses := rfl
@[simp] theorem sendCall_branches (b : Branch) (c : Call) : (s.sendCall b c).branches = s.branches := rfl
@[simp] theorem sendCall_arrivals (b : Branch) (c : Call) : (s.sendCall b c).arrivals = s.arrivals := rfl
@[simp] theorem sendCall_ageLimitRead (b : Branch) (c : Call) : (s.sendCall b c).ageLimitRead = s.ageLimitRead := rfl
@[simp] theorem sendCall_unknown (b : Branch) (c : Call) : (s.sendCall b c).unknown = s.unknown := rfl
@[simp] theorem sendCall_generators (b : Branch) (c : Call) : (s.sendCall b c).generators = s.generators := rfl
@[simp] theorem sendCall_lastServed (b : Branch) (c : Call) : (s.sendCall b c).lastServed = s.lastServed := rfl
@[simp] theorem sendCall_frame (b : Branch) (c : Call) : (s.sendCall b c).frame = s.frame := rfl
@[simp] theorem sendCall_baseTick (b : Branch) (c : Call) : (s.sendCall b c).baseTick = s.baseTick := rfl
@[simp] theorem sendCall_slots (b : Branch) (c : Call) : (s.sendCall b c).slots = s.slots := rfl
@[simp] theorem sendCall_header (b : Branch) (c : Call) : (s.sendCall b c).header = s.header := rfl
@[simp] theorem sendCall_images (b : Branch) (c : Call) : (s.sendCall b c).images = s.images := rfl
@[simp] theorem sendCall_headerImage (b : Branch) (c : Call) : (s.sendCall b c).headerImage = s.headerImage := rfl
@[simp] theorem sendCall_nextSeq (b : Branch) (c : Call) : (s.sendCall b c).nextSeq = s.nextSeq := rfl
@[simp] theorem sendCall_controller (b : Branch) (c : Call) : (s.sendCall b c).controller = s.controller := rfl
@[simp] theorem sendCall_port (b : Branch) (c : Call) (p' : Port) : (s.sendCall b c).port p' = s.port p' := rfl
@[simp] theorem sendCall_entry (b : Branch) (c : Call) (d' : Drop) : (s.sendCall b c).entry d' = s.entry d' := rfl
@[simp] theorem sendCall_claim (b : Branch) (c : Call) (d' : Drop) : (s.sendCall b c).claim d' = s.claim d' := rfl
@[simp] theorem sendCall_branch (b : Branch) (c : Call) (b' : Branch) : (s.sendCall b c).branch b' = s.branch b' := rfl
@[simp] theorem sendCall_queue (b : Branch) (c : Call) (b' : Branch) : (s.sendCall b c).queue b' = s.queue b' := rfl
@[simp] theorem sendCall_arrivalsOf (b : Branch) (c : Call) (b' : Branch) : (s.sendCall b c).arrivalsOf b' = s.arrivalsOf b' := rfl
@[simp] theorem sendCall_gen (b : Branch) (c : Call) (g' : Gen) : (s.sendCall b c).gen g' = s.gen g' := rfl
@[simp] theorem sendCall_slot (b : Branch) (c : Call) (d' : Drop) : (s.sendCall b c).slot d' = s.slot d' := rfl
@[simp] theorem sendCall_image (b : Branch) (c : Call) (d' : Drop) : (s.sendCall b c).image d' = s.image d' := rfl

/-! respond -/

@[simp] theorem respond_pending (r : Request) (k : Byte) (a : Answer) : (s.respond r k a).pending = s.pending := rfl
@[simp] theorem respond_startup (r : Request) (k : Byte) (a : Answer) : (s.respond r k a).startup = s.startup := rfl
@[simp] theorem respond_powerOnHold (r : Request) (k : Byte) (a : Answer) : (s.respond r k a).powerOnHold = s.powerOnHold := rfl
@[simp] theorem respond_supplyHold (r : Request) (k : Byte) (a : Answer) : (s.respond r k a).supplyHold = s.supplyHold := rfl
@[simp] theorem respond_pinHold (r : Request) (k : Byte) (a : Answer) : (s.respond r k a).pinHold = s.pinHold := rfl
@[simp] theorem respond_keepThresholds (r : Request) (k : Byte) (a : Answer) : (s.respond r k a).keepThresholds = s.keepThresholds := rfl
@[simp] theorem respond_restart (r : Request) (k : Byte) (a : Answer) : (s.respond r k a).restart = s.restart := rfl
@[simp] theorem respond_supply (r : Request) (k : Byte) (a : Answer) : (s.respond r k a).supply = s.supply := rfl
@[simp] theorem respond_monitor (r : Request) (k : Byte) (a : Answer) : (s.respond r k a).monitor = s.monitor := rfl
@[simp] theorem respond_mode (r : Request) (k : Byte) (a : Answer) : (s.respond r k a).mode = s.mode := rfl
@[simp] theorem respond_resume (r : Request) (k : Byte) (a : Answer) : (s.respond r k a).resume = s.resume := rfl
@[simp] theorem respond_settings (r : Request) (k : Byte) (a : Answer) : (s.respond r k a).settings = s.settings := rfl
@[simp] theorem respond_estateId (r : Request) (k : Byte) (a : Answer) : (s.respond r k a).estateId = s.estateId := rfl
@[simp] theorem respond_unsaved (r : Request) (k : Byte) (a : Answer) : (s.respond r k a).unsaved = s.unsaved := rfl
@[simp] theorem respond_roster (r : Request) (k : Byte) (a : Answer) : (s.respond r k a).roster = s.roster := rfl
@[simp] theorem respond_claims (r : Request) (k : Byte) (a : Answer) : (s.respond r k a).claims = s.claims := rfl
@[simp] theorem respond_lapses (r : Request) (k : Byte) (a : Answer) : (s.respond r k a).lapses = s.lapses := rfl
@[simp] theorem respond_branches (r : Request) (k : Byte) (a : Answer) : (s.respond r k a).branches = s.branches := rfl
@[simp] theorem respond_lanes (r : Request) (k : Byte) (a : Answer) : (s.respond r k a).lanes = s.lanes := rfl
@[simp] theorem respond_arrivals (r : Request) (k : Byte) (a : Answer) : (s.respond r k a).arrivals = s.arrivals := rfl
@[simp] theorem respond_ageLimitRead (r : Request) (k : Byte) (a : Answer) : (s.respond r k a).ageLimitRead = s.ageLimitRead := rfl
@[simp] theorem respond_unknown (r : Request) (k : Byte) (a : Answer) : (s.respond r k a).unknown = s.unknown := rfl
@[simp] theorem respond_generators (r : Request) (k : Byte) (a : Answer) : (s.respond r k a).generators = s.generators := rfl
@[simp] theorem respond_lastServed (r : Request) (k : Byte) (a : Answer) : (s.respond r k a).lastServed = s.lastServed := rfl
@[simp] theorem respond_frame (r : Request) (k : Byte) (a : Answer) : (s.respond r k a).frame = s.frame := rfl
@[simp] theorem respond_baseTick (r : Request) (k : Byte) (a : Answer) : (s.respond r k a).baseTick = s.baseTick := rfl
@[simp] theorem respond_slots (r : Request) (k : Byte) (a : Answer) : (s.respond r k a).slots = s.slots := rfl
@[simp] theorem respond_header (r : Request) (k : Byte) (a : Answer) : (s.respond r k a).header = s.header := rfl
@[simp] theorem respond_images (r : Request) (k : Byte) (a : Answer) : (s.respond r k a).images = s.images := rfl
@[simp] theorem respond_headerImage (r : Request) (k : Byte) (a : Answer) : (s.respond r k a).headerImage = s.headerImage := rfl
@[simp] theorem respond_nextSeq (r : Request) (k : Byte) (a : Answer) : (s.respond r k a).nextSeq = s.nextSeq := rfl
@[simp] theorem respond_controller (r : Request) (k : Byte) (a : Answer) : (s.respond r k a).controller = s.controller := rfl
@[simp] theorem respond_lane (r : Request) (k : Byte) (a : Answer) (b' : Branch) : (s.respond r k a).lane b' = s.lane b' := rfl
@[simp] theorem respond_entry (r : Request) (k : Byte) (a : Answer) (d' : Drop) : (s.respond r k a).entry d' = s.entry d' := rfl
@[simp] theorem respond_claim (r : Request) (k : Byte) (a : Answer) (d' : Drop) : (s.respond r k a).claim d' = s.claim d' := rfl
@[simp] theorem respond_branch (r : Request) (k : Byte) (a : Answer) (b' : Branch) : (s.respond r k a).branch b' = s.branch b' := rfl
@[simp] theorem respond_queue (r : Request) (k : Byte) (a : Answer) (b' : Branch) : (s.respond r k a).queue b' = s.queue b' := rfl
@[simp] theorem respond_arrivalsOf (r : Request) (k : Byte) (a : Answer) (b' : Branch) : (s.respond r k a).arrivalsOf b' = s.arrivalsOf b' := rfl
@[simp] theorem respond_gen (r : Request) (k : Byte) (a : Answer) (g' : Gen) : (s.respond r k a).gen g' = s.gen g' := rfl
@[simp] theorem respond_slot (r : Request) (k : Byte) (a : Answer) (d' : Drop) : (s.respond r k a).slot d' = s.slot d' := rfl
@[simp] theorem respond_image (r : Request) (k : Byte) (a : Answer) (d' : Drop) : (s.respond r k a).image d' = s.image d' := rfl

/-! Reading what was written -/

theorem setLane_lane (i j : Branch) (v : Lane) : (s.setLane i v).lane j = if i = j then v else s.lane j := by
  simp [setLane, lane, Vector.getElem_set, Fin.ext_iff]

@[simp] theorem setLane_lane_same (i : Branch) (v : Lane) : (s.setLane i v).lane i = v := by simp [setLane_lane]

theorem setLane_lane_ne (i j : Branch) (v : Lane) (h : i ≠ j) : (s.setLane i v).lane j = s.lane j := by simp [setLane_lane, h]

theorem setEntry_entry (i j : Drop) (v : Entry) : (s.setEntry i v).entry j = if i = j then v else s.entry j := by
  simp [setEntry, entry, Vector.getElem_set, Fin.ext_iff]

@[simp] theorem setEntry_entry_same (i : Drop) (v : Entry) : (s.setEntry i v).entry i = v := by simp [setEntry_entry]

theorem setEntry_entry_ne (i j : Drop) (v : Entry) (h : i ≠ j) : (s.setEntry i v).entry j = s.entry j := by simp [setEntry_entry, h]

theorem setClaim_claim (i j : Drop) (v : Option Claim) : (s.setClaim i v).claim j = if i = j then v else s.claim j := by
  simp [setClaim, claim, Vector.getElem_set, Fin.ext_iff]

@[simp] theorem setClaim_claim_same (i : Drop) (v : Option Claim) : (s.setClaim i v).claim i = v := by simp [setClaim_claim]

theorem setClaim_claim_ne (i j : Drop) (v : Option Claim) (h : i ≠ j) : (s.setClaim i v).claim j = s.claim j := by simp [setClaim_claim, h]

theorem setBranch_branch (i j : Branch) (v : BranchCtl) : (s.setBranch i v).branch j = if i = j then v else s.branch j := by
  simp [setBranch, branch, Vector.getElem_set, Fin.ext_iff]

@[simp] theorem setBranch_branch_same (i : Branch) (v : BranchCtl) : (s.setBranch i v).branch i = v := by simp [setBranch_branch]

theorem setBranch_branch_ne (i j : Branch) (v : BranchCtl) (h : i ≠ j) : (s.setBranch i v).branch j = s.branch j := by simp [setBranch_branch, h]

theorem setArrivals_arrivalsOf (i j : Branch) (v : ArrivalsList) : (s.setArrivals i v).arrivalsOf j = if i = j then v else s.arrivalsOf j := by
  simp [setArrivals, arrivalsOf, Vector.getElem_set, Fin.ext_iff]

@[simp] theorem setArrivals_arrivalsOf_same (i : Branch) (v : ArrivalsList) : (s.setArrivals i v).arrivalsOf i = v := by simp [setArrivals_arrivalsOf]

theorem setArrivals_arrivalsOf_ne (i j : Branch) (v : ArrivalsList) (h : i ≠ j) : (s.setArrivals i v).arrivalsOf j = s.arrivalsOf j := by simp [setArrivals_arrivalsOf, h]

theorem setGen_gen (i j : Gen) (v : Generator) : (s.setGen i v).gen j = if i = j then v else s.gen j := by
  simp [setGen, gen, Vector.getElem_set, Fin.ext_iff]

@[simp] theorem setGen_gen_same (i : Gen) (v : Generator) : (s.setGen i v).gen i = v := by simp [setGen_gen]

theorem setGen_gen_ne (i j : Gen) (v : Generator) (h : i ≠ j) : (s.setGen i v).gen j = s.gen j := by simp [setGen_gen, h]

theorem setSlot_slot (i j : Drop) (v : StoreRecord) : (s.setSlot i v).slot j = if i = j then v else s.slot j := by
  simp [setSlot, slot, Vector.getElem_set, Fin.ext_iff]

@[simp] theorem setSlot_slot_same (i : Drop) (v : StoreRecord) : (s.setSlot i v).slot i = v := by simp [setSlot_slot]

theorem setSlot_slot_ne (i j : Drop) (v : StoreRecord) (h : i ≠ j) : (s.setSlot i v).slot j = s.slot j := by simp [setSlot_slot, h]

theorem setImage_image (i j : Drop) (v : SlotImage) : (s.setImage i v).image j = if i = j then v else s.image j := by
  simp [setImage, image, Vector.getElem_set, Fin.ext_iff]

@[simp] theorem setImage_image_same (i : Drop) (v : SlotImage) : (s.setImage i v).image i = v := by simp [setImage_image]

theorem setImage_image_ne (i j : Drop) (v : SlotImage) (h : i ≠ j) : (s.setImage i v).image j = s.image j := by simp [setImage_image, h]

theorem setPort_port (p q : Port) (v : PortRecord) : (s.setPort p v).port q = if p = q then v else s.port q := by
  cases p <;> cases q <;> simp [setPort, port, Port.index]

@[simp] theorem setPort_port_same (p : Port) (v : PortRecord) : (s.setPort p v).port p = v := by simp [setPort_port]

theorem setPort_port_ne (p q : Port) (v : PortRecord) (h : p ≠ q) : (s.setPort p v).port q = s.port q := by
  simp [setPort_port, h]

@[simp] theorem raise_port (e : Event) (p : Port) : (s.raise e).port p = (s.port p).raise e := by
  cases p <;> simp [raise, port, Port.index]

theorem setQueue_queue (b c : Branch) (q : List Job) : (s.setQueue b q).queue c = if b = c then q else s.queue c := by
  by_cases h : b = c <;> simp [setQueue, queue, setBranch_branch, h]

theorem setBranch_queue (b c : Branch) (v : BranchCtl) :
    (s.setBranch b v).queue c = if b = c then v.queue else s.queue c := by
  by_cases h : b = c <;> simp [queue, setBranch_branch, h]

@[simp] theorem respond_port_same (r : Request) (k : Byte) (a : Answer) :
    (s.respond r k a).port r.port =
      { s.port r.port with answer := .answering (some ⟨r.tag, k, a.status, a.data⟩) } := by
  simp [respond]

theorem respond_port_ne (r : Request) (k : Byte) (a : Answer) (p : Port) (h : r.port ≠ p) :
    (s.respond r k a).port p = s.port p := by
  simp [respond, setPort_port, h]

@[simp] theorem setEntry_self (d : Drop) : s.setEntry d (s.entry d) = s := by
  simp [setEntry, entry]

@[simp] theorem setBranch_self (b : Branch) : s.setBranch b (s.branch b) = s := by
  simp [setBranch, branch]

end Sys2Proof.Machine.State
end

