-- ==== Sys2Proof/Laws/Ops.lean ====
section
/-! SUPPORT. What the shared operations can do, each said once: the fields of a burst header, the checks and the answer of a
request, the shape of a timed event, the step, what the Branch Controller's operations can touch, and what a Burst Receiver
does with a burst. -/

namespace Sys2Proof.Machine

/-! Burst headers (12.4): the fields come back from the symbols they are placed in, and the unused bit is in none. -/

@[simp] theorem kind_headerSymbols (v : HeaderVerdict) (k : BitVec 4) (t : BitVec 3) (n : Serial) (l : Byte) :
    (Header.mk v (headerSymbols k t n l)).kind = k := by
  refine BitVec.eq_of_getLsbD_eq fun i hi => ?_
  simp only [Header.kind, headerSymbols, BitVec.getLsbD_extractLsb', BitVec.getLsbD_append]
  interval_cases i <;> simp

@[simp] theorem tag_headerSymbols (v : HeaderVerdict) (k : BitVec 4) (t : BitVec 3) (n : Serial) (l : Byte) :
    (Header.mk v (headerSymbols k t n l)).tag = t := by
  refine BitVec.eq_of_getLsbD_eq fun i hi => ?_
  simp only [Header.tag, headerSymbols, BitVec.getLsbD_extractLsb', BitVec.getLsbD_append]
  interval_cases i <;> simp

@[simp] theorem serial_headerSymbols (v : HeaderVerdict) (k : BitVec 4) (t : BitVec 3) (n : Serial) (l : Byte) :
    (Header.mk v (headerSymbols k t n l)).serial = n := by
  refine BitVec.eq_of_getLsbD_eq fun i hi => ?_
  simp only [Header.serial, headerSymbols, BitVec.getLsbD_extractLsb', BitVec.getLsbD_append]
  simp [hi]

@[simp] theorem length_headerSymbols (v : HeaderVerdict) (k : BitVec 4) (t : BitVec 3) (n : Serial) (l : Byte) :
    (Header.mk v (headerSymbols k t n l)).length = l := by
  refine BitVec.eq_of_getLsbD_eq fun i hi => ?_
  simp only [Header.length, headerSymbols, BitVec.getLsbD_extractLsb', BitVec.getLsbD_append]
  simp [hi]

theorem fields_unused_bit (v : HeaderVerdict) (y : BitVec 64) :
    let h := Header.mk v y
    let u := Header.mk v (y ||| 1#64 <<< 56)
    u.kind = h.kind ∧ u.tag = h.tag ∧ u.serial = h.serial ∧ u.length = h.length := by
  refine ⟨?_, ?_, ?_, ?_⟩ <;> refine BitVec.eq_of_getLsbD_eq fun i hi => ?_
  all_goals simp only [Header.kind, Header.tag, Header.serial, Header.length, BitVec.getLsbD_extractLsb',
    BitVec.getLsbD_or]
  all_goals interval_cases i <;> simp

@[simp] theorem kind?_cleanBurst (k : BitVec 4) (t : BitVec 3) (n : Serial) (p : List Byte) :
    (cleanBurst k t n p).kind? = some k := by simp [Burst.kind?, cleanBurst]

/-! Requests -/

theorem firstFailure_nil : firstFailure [] = none := rfl

theorem firstFailure_fail (st : Status) (cs : List (Option Status)) : firstFailure (some st :: cs) = some st := rfl

theorem firstFailure_pass (cs : List (Option Status)) : firstFailure (none :: cs) = firstFailure cs := rfl

/-- The list of checks passes exactly when each of its checks passes. -/
theorem firstFailure_eq_none {cs : List (Option Status)} : firstFailure cs = none ↔ ∀ c ∈ cs, c = none := by
  induction cs with
  | nil => simp [firstFailure]
  | cons c cs ih => cases c <;> simp [firstFailure, ih]

theorem failIf_eq_none {c : Bool} {st : Status} : failIf c st = none ↔ c = false := by cases c <;> simp [failIf]

/-- A request whose checks pass has its effect. -/
theorem checked_pass {s : State} {cs : List (Option Status)} {out : State × Answer} (h : ∀ c ∈ cs, c = none) :
    checked s cs out = out := by
  simp [checked, firstFailure_eq_none.mpr h]

/-- A refused request changes nothing, and its answer carries no data (R177). -/
theorem checked_cases (s : State) (cs : List (Option Status)) (out : State × Answer) :
    checked s cs out = out ∨ ∃ st, checked s cs out = (s, .just st) := by
  unfold checked
  cases firstFailure cs with
  | none => exact .inl rfl
  | some st => exact .inr ⟨st, rfl⟩

theorem withParams_some {α : Type} (s : State) (v : α) (act : α → State × Answer) :
    withParams s (some v) act = act v := rfl

theorem withParams_none {α : Type} (s : State) (act : α → State × Answer) :
    withParams s none act = (s, .just .badParameter) := rfl

/-- A taken and permitted request in RUNNING has the effect and the answer its owning block gives (R177). -/
theorem takeRequest_run {k : RequestKind} {r : Request} {act : State → State × Answer} {s : State}
    (hrun : s.isRunning = true) (htake : s.takesFrame r.port r.inTime = true) (hrole : k.permits r.port = true) :
    s.takeRequest k r act = (act s).1.respond r k.code (act s).2 := by
  simp [State.takeRequest, hrun, htake, hrole]

/-- A port takes a request that meets `State.Takes`. -/
theorem takesFrame_of_takes {s : State} {r : Request} (h : s.Takes r) : s.takesFrame r.port r.inTime = true := by
  obtain ⟨⟨h1, h2, h3⟩, h4⟩ := h
  simp [State.takesFrame, h1, h2, h3, h4]

theorem isRunning_of_takes {s : State} {r : Request} (h : s.Takes r) : s.isRunning = true := by
  simp [State.isRunning, h.1.1]

/-- A frame that its port does not take is lost (R170, R174 to R176). -/
theorem takeRequest_lost {k : RequestKind} {r : Request} {act : State → State × Answer} {s : State}
    (h : s.takesFrame r.port r.inTime = false) : s.takeRequest k r act = s := by
  simp [State.takeRequest, h]

/-- Everything a request can do: it is lost, or its port answers it and the rest is the owning block's. -/
theorem takeRequest_cases (k : RequestKind) (r : Request) (act : State → State × Answer) (s : State) :
    s.takeRequest k r act = s ∨ (∃ a, s.takeRequest k r act = s.respond r k.code a) ∨
      s.takeRequest k r act = (act s).1.respond r k.code (act s).2 := by
  unfold State.takeRequest
  split
  · exact .inl rfl
  · split
    · exact .inr (.inl ⟨_, rfl⟩)
    · split
      · exact .inr (.inl ⟨_, rfl⟩)
      · exact .inr (.inr rfl)

/-! Events and steps -/

theorem whileRunning_run {s : State} (act : State → State) (h : s.isRunning = true) :
    s.whileRunning act = .next (act s) := by simp [State.whileRunning, h]

theorem whileRunning_idle {s : State} (act : State → State) (h : s.isRunning = false) :
    s.whileRunning act = .next s := by simp [State.whileRunning, h]

theorem step_cons (s : State) (c : Instr) (cs : List Instr) (h : s.pending = c :: cs) :
    step s = exec c { s with pending := cs } := by simp [step, h]

theorem step_nil (s : State) (h : s.pending = []) : step s = .next s.timePasses := by simp [step, h]

/-! What the Branch Controller's operations can touch -/

/-- The second state differs from the first at most in the queues, windows and timers, the lanes, the entries, the
generators, the last-served branch, and the port records. -/
def BranchWork (s t : State) : Prop :=
  t = { s with
    branches := t.branches, lanes := t.lanes, roster := t.roster, generators := t.generators,
    lastServed := t.lastServed, ports := t.ports }

theorem BranchWork.refl (s : State) : BranchWork s s := rfl

theorem BranchWork.trans {s t u : State} (h1 : BranchWork s t) (h2 : BranchWork t u) : BranchWork s u := by
  unfold BranchWork at *
  rw [h2]
  rw [h1]

theorem BranchWork.foldl {α : Type} (f : State → α → State) (h : ∀ s a, BranchWork s (f s a)) (l : List α) (s : State) :
    BranchWork s (l.foldl f s) := by
  induction l generalizing s with
  | nil => exact .refl s
  | cons a l ih => exact (h s a).trans (ih _)

theorem branchWork_setBranch (s : State) (b : Branch) (c : BranchCtl) : BranchWork s (s.setBranch b c) := rfl

theorem branchWork_setQueue (s : State) (b : Branch) (q : List Job) : BranchWork s (s.setQueue b q) := rfl

theorem branchWork_setEntry (s : State) (d : Drop) (e : Entry) : BranchWork s (s.setEntry d e) := rfl

theorem branchWork_dropReading (s : State) (b : Branch) : BranchWork s (s.dropReading b) := rfl

theorem branchWork_sendCall (s : State) (b : Branch) (c : Call) : BranchWork s (s.sendCall b c) := rfl

theorem branchWork_raise (s : State) (e : Event) : BranchWork s (s.raise e) := rfl

theorem branchWork_detachWhere (s : State) (p : Generator → Bool) : BranchWork s (s.detachWhere p) := rfl

theorem branchWork_appendJob (s : State) (d : Drop) (k : JobKind) (r : Requester) :
    BranchWork s (s.appendJob d k r) := rfl

theorem branchWork_setHead (s : State) (b : Branch) (f : Job → Job) : BranchWork s (s.setHead b f) := by
  unfold State.setHead
  split <;> exact rfl

theorem branchWork_giveGenerator (s : State) (b : Branch) (g : Gen) : BranchWork s (s.giveGenerator b g) := by
  unfold State.giveGenerator
  split <;> exact rfl

theorem branchWork_requestGenerator (s : State) (b : Branch) : BranchWork s (s.requestGenerator b) := by
  unfold State.requestGenerator
  split
  · exact branchWork_giveGenerator s b _
  · exact rfl

theorem branchWork_offer (s : State) (g : Gen) : BranchWork s (s.offer g) := by
  unfold State.offer
  split
  · exact branchWork_giveGenerator s _ g
  · exact rfl

theorem branchWork_offerAll (s : State) (gs : List Gen) : BranchWork s (s.offerAll gs) :=
  .foldl _ branchWork_offer gs s

theorem branchWork_detachAndOffer (s : State) (p : Generator → Bool) : BranchWork s (s.detachAndOffer p) :=
  (branchWork_detachWhere s p).trans (branchWork_offerAll _ _)

theorem branchWork_openCall (s : State) (b : Branch) : BranchWork s (s.openCall b) := rfl

theorem branchWork_matchAttempt (s : State) (b : Branch) : BranchWork s (s.matchAttempt b) :=
  (branchWork_setHead s b _).trans ((branchWork_setBranch _ b _).trans (branchWork_sendCall _ b _))

theorem branchWork_rangeTry (s : State) (b : Branch) (d : Drop) : BranchWork s (s.rangeTry b d) :=
  (branchWork_setHead s b _).trans
    ((branchWork_setBranch _ b _).trans ((branchWork_dropReading _ b).trans (branchWork_sendCall _ b _)))

theorem branchWork_grant (s : State) (b : Branch) : BranchWork s (s.grant b) := by
  unfold State.grant
  split
  · split
    · exact branchWork_openCall s b
    · split
      · split
        · exact branchWork_matchAttempt s b
        · exact branchWork_rangeTry s b _
        · exact rfl
      · exact rfl
  · exact rfl

theorem branchWork_startHead (s : State) (b : Branch) : BranchWork s (s.startHead b) := by
  unfold State.startHead
  split
  · split
    · split
      · exact (branchWork_setQueue s b _).trans (branchWork_requestGenerator _ b)
      · exact (branchWork_setQueue s b _).trans (branchWork_setEntry _ _ _)
    · exact rfl
  · exact rfl

theorem branchWork_proceed (s : State) (b : Branch) : BranchWork s (s.proceed b) :=
  (branchWork_startHead s b).trans (branchWork_grant _ b)

theorem branchWork_proceedAll (s : State) : BranchWork s s.proceedAll :=
  (BranchWork.foldl _ (fun t b => branchWork_startHead t b) _ s).trans
    (.foldl _ (fun t b => branchWork_grant t b) _ _)

theorem branchWork_queuePending (s : State) (d : Drop) : BranchWork s (s.queuePending d) := rfl

theorem branchWork_refill (s : State) (b : Branch) : BranchWork s (s.refill b) := by
  unfold State.refill
  split
  · split <;> exact rfl
  · exact rfl

theorem branchWork_fill (s : State) (b : Branch) : BranchWork s (s.fill b) :=
  .foldl _ (fun t d => branchWork_queuePending t d) _ s

theorem branchWork_dropJob (s : State) (j : Job) (e : Entry) : BranchWork s (s.dropJob j e) :=
  ((branchWork_detachWhere s _).trans ((branchWork_setBranch _ _ _).trans (branchWork_setEntry _ _ _))).trans
    (branchWork_offerAll _ _)

/-- The end of a job touches only the Branch Controllers, the lanes, the entries, the generators and the event copies. -/
theorem branchWork_endJob (s : State) (j : Job) (e : Entry) (ev : Option Event) : BranchWork s (s.endJob j e ev) := by
  unfold State.endJob
  refine (branchWork_dropJob s j e).trans ?_
  cases ev with
  | none => exact (branchWork_refill _ _).trans (branchWork_proceed _ _)
  | some ev => exact (branchWork_raise _ ev).trans ((branchWork_refill _ _).trans (branchWork_proceed _ _))

theorem branchWork_abandonJob (s : State) (j : Job) : BranchWork s (s.abandonJob j) :=
  ((branchWork_dropJob s j _).trans (branchWork_raise _ _)).trans
    ((branchWork_appendJob _ _ _ _).trans (branchWork_proceed _ _))

theorem branchWork_rejoinRequest (s : State) (d : Drop) : BranchWork s (s.rejoinRequest d) := by
  unfold State.rejoinRequest
  split
  · exact (branchWork_appendJob s d _ _).trans (branchWork_proceed _ _)
  · split <;> exact rfl

theorem branchWork_reportFault (s : State) (b : Branch) (k : FaultKind) : BranchWork s (s.reportFault b k) := by
  unfold State.reportFault
  split <;> exact rfl

theorem branchWork_reportFound (s : State) (b : Branch) (faults : List FaultKind) :
    BranchWork s (s.reportFound b faults) :=
  .foldl _ (fun t k => branchWork_reportFault t b k) faults s

theorem branchWork_setReception (s : State) (b : Branch) (r : Option Reception) :
    BranchWork s (s.setReception b r) := rfl

/-! Burst reception -/

/-- A complete preamble without an error leaves checks 2 to 4, whatever the tolerance (R80). -/
theorem inspect_good {tol : Tolerance} {x : Burst} (h : x.preambleErrors = List.replicate 8 false) :
    inspect tol x = inspectHeader x := by
  simp [inspect, h, judgePreamble]

/-- A preamble cut short is SHORT, and nothing else is judged (R83). -/
theorem inspect_incomplete {tol : Tolerance} {x : Burst} (h : x.preambleErrors.length < 8) :
    inspect tol x = ⟨[.short], none⟩ := by
  simp [inspect, h]

/-- Over a whole burst every fault is found. -/
theorem foundBetween_whole (faults : List FaultKind) : foundBetween .begun .ended faults = faults :=
  List.filter_eq_self.mpr fun k _ => by cases k <;> rfl

/-- At the first light nothing is found. -/
theorem foundBetween_begun (before : BurstPart) (faults : List FaultKind) : foundBetween before .begun faults = [] :=
  List.filter_eq_nil_iff.mpr fun k _ => by cases k <;> simp [FaultKind.foundAt, BurstPart.rank]

/-- A part that has been taken before finds nothing again. -/
theorem foundBetween_self (p : BurstPart) (faults : List FaultKind) : foundBetween p p faults = [] :=
  List.filter_eq_nil_iff.mpr fun k _ => by simp

/-- The faults found over two parts are those of the first, kept in front, and those of the second. -/
theorem mem_foundBetween {before upTo : BurstPart} {faults : List FaultKind} {k : FaultKind} :
    k ∈ foundBetween before upTo faults ↔
      k ∈ faults ∧ before.rank < k.foundAt.rank ∧ k.foundAt.rank ≤ upTo.rank := by
  simp [foundBetween]

@[simp] theorem setReception_settings (s : State) (b : Branch) (r : Option Reception) :
    (s.setReception b r).settings = s.settings := rfl

@[simp] theorem setReception_rx (s : State) (b : Branch) (r : Option Reception) :
    ((s.setReception b r).lane b).rx = r := by
  simp [State.setReception]

@[simp] theorem dropReading_branch (s : State) (b c : Branch) : (s.dropReading b).branch c = s.branch c := rfl

@[simp] theorem dropReading_entry (s : State) (b : Branch) (d : Drop) : (s.dropReading b).entry d = s.entry d := rfl

/-- With no burst in progress a RANGE_CALL has no reading to drop (R61). -/
theorem dropReading_of_none {s : State} {b : Branch} (h : (s.lane b).rx = none) : s.dropReading b = s := by
  have e : { s.lane b with rx := (s.lane b).rx.map fun r => { r with counter := none } } = s.lane b := by
    rw [h]
    show { s.lane b with rx := none } = s.lane b
    rw [← h]
  unfold State.dropReading
  rw [e]
  simp [State.setLane, State.lane]

/-- A new burst reads the branch's range counter as it stands (R61, R77). -/
@[simp] theorem newReception_counter (s : State) (b : Branch) :
    (s.newReception b).counter = (s.branch b).rangeCounter := rfl

/-- A burst that begins is taken, unless the receiver takes none (R78). -/
@[simp] theorem newReception_taken (s : State) (b : Branch) : (s.newReception b).taken = true := rfl

@[simp] theorem ignored_taken (r : Reception) : r.ignored.taken = false := rfl

/-- The reading of a burst stands while its parts come. -/
theorem after_counter {r q : Reception} {p : BurstPart} (h : r.after p = some q) : q.counter = r.counter := by
  unfold Reception.after at h
  split at h
  · cases h
  · split at h <;> · cases h; rfl

/-- With no burst in progress there is none to end. -/
theorem setReception_none {s : State} {b : Branch} (h : (s.lane b).rx = none) : s.setReception b none = s := by
  have e : { s.lane b with rx := none } = s.lane b := by rw [← h]
  unfold State.setReception
  rw [e]
  simp [State.setLane, State.lane]

/-- The later of two replacements of the burst in progress counts. -/
theorem setReception_setReception (s : State) (b : Branch) (r q : Option Reception) :
    (s.setReception b r).setReception b q = s.setReception b q := by
  simp [State.setReception, State.setLane, State.lane]

/-- A report touches the fault flags and the count, and not the burst in progress. -/
theorem reportFault_setReception (s : State) (b : Branch) (r : Option Reception) (k : FaultKind) :
    (s.setReception b r).reportFault b k = (s.reportFault b k).setReception b r := by
  unfold State.reportFault
  rw [setReception_settings]
  split
  · simp [State.setReception, State.setLane, State.lane, State.raise, Lane.recordFault]
  · rfl

theorem reportFound_setReception (s : State) (b : Branch) (r : Option Reception) (faults : List FaultKind) :
    (s.setReception b r).reportFound b faults = (s.reportFound b faults).setReception b r := by
  induction faults generalizing s with
  | nil => rfl
  | cons k ks ih =>
    show ((s.setReception b r).reportFault b k).reportFound b ks = _
    rw [reportFault_setReception, ih]
    rfl

/-- A receiver that takes no bursts only follows one to its end (R78, R91, R92). -/
theorem receive_lost {s : State} {b : Branch} {x : Burst}
    (h : s.isRunning = false ∨ x.inTime = false ∨ (s.lane b).closed = true ∨ (s.receptionOf b x).taken = false) :
    s.receive b x = s.ignoreBurst b x := by
  rcases h with h | h | h | h <;> simp [State.receive, h]

/-- The parts of a burst that the receiver takes go through its checks (R79). -/
theorem receive_eq_takePart {s : State} {b : Branch} {x : Burst} (h : s.OpenLane b) (hx : x.inTime = true)
    (ht : (s.receptionOf b x).taken = true) : s.receive b x = s.takePart b x (s.receptionOf b x) := by
  simp [State.receive, State.isRunning, h.1, h.2, hx, ht]

/-- The end of a burst that is not taken leaves no burst in progress, and nothing else (R78). -/
theorem ignoreBurst_ended {s : State} {b : Branch} {x : Burst} (h : x.upTo = .ended) :
    s.ignoreBurst b x = s.setReception b none := by
  simp [State.ignoreBurst, Reception.after, h]

/-- A burst that is not taken stays so (R78). -/
theorem ignoreBurst_taken {s : State} {b : Branch} {x : Burst} {q : Reception}
    (h : ((s.ignoreBurst b x).lane b).rx = some q) : q.taken = false := by
  simp only [State.ignoreBurst, setReception_rx, Reception.after] at h
  split at h
  · cases h
  · split at h <;> · cases h; rfl

theorem branchWork_ignoreBurst (s : State) (b : Branch) (x : Burst) : BranchWork s (s.ignoreBurst b x) := rfl

/-- A lane that waits for a burst reports what the checks found in it, and takes it on when it passed them (R79). -/
theorem receive_taken {s : State} {b : Branch} {x : Burst} (h : s.Listening b) (hx : x.inTime = true)
    (hw : x.upTo = .ended) :
    s.receive b x =
      match (inspect s.settings.tolerance x).intact with
      | some (y, payload) =>
        ((s.reportFound b (inspect s.settings.tolerance x).faults).afterPreamble b
          (inspect s.settings.tolerance x).faults).takeIntact b y payload (s.branch b).rangeCounter
      | none =>
        (s.reportFound b (inspect s.settings.tolerance x).faults).afterPreamble b
          (inspect s.settings.tolerance x).faults := by
  obtain ⟨⟨h1, h2⟩, h3⟩ := h
  have hr : s.receptionOf b x = s.newReception b := by simp [State.receptionOf, hw, h3]
  have ha : (s.newReception b).after .ended = none := rfl
  rw [receive_eq_takePart ⟨h1, h2⟩ hx (by rw [hr]; rfl), hr]
  unfold State.takePart
  rw [hw]
  simp only [State.newReception] at ha ⊢
  simp only [foundBetween_whole, ha, setReception_none h3]
  cases (inspect s.settings.tolerance x).intact <;> rfl

/-- Without a lost preamble the lane stays open (R81). -/
theorem afterPreamble_of_not_lost {s : State} {b : Branch} {fs : List FaultKind} (h : .preambleLost ∉ fs) :
    s.afterPreamble b fs = s := by
  simp [State.afterPreamble, h]

end Sys2Proof.Machine
end

