-- ==== Sys2Proof/Tests/Slice0.lean ====
section
/-! SUPPORT. The model's own tests: the well-formedness checks refuse an ill-formed term each, figures the spec works out come
out of the model, single commands on small states do what their rules say, and every statement with hypotheses has a
state and operands that meet them together. -/

namespace Sys2Proof.Tests

-- One theorem is checked after another: all at once they ask for more threads than check.sh's memory limit allows.
set_option Elab.async false

open Sys2Proof Sys2Proof.Machine

/-! ## Small states -/

/-- A running part in LIVE with the supply at 20.0 V: what the scan of a blank store leaves, but for the mode. -/
def base : State :=
  { State.reset with
    startup := .running, mode := .live, resume := .live, supply := 200, controller := .idle, frame := some ⟨80, 1⟩ }

/-- A request with tag 7, begun in time. -/
def req (p : Port) (params : List Byte) : Request := ⟨p, 7, params, true⟩

/-- An entry of a state with a serial. -/
def ent (st : EntryState) (n : Option Serial) : Entry :=
  { Entry.empty with state := st, plot := 1, provider := 1, serial := n, delay := some 100 }

/-- A supervised entry. -/
def seen (st : EntryState) (n : Serial) (p : PresenceRecord) : Entry := { ent st (some n) with presence := some p }

/-- A fresh presence record with a count. -/
def record (running : Nat) : PresenceRecord := ⟨running, 0, 2, 60, false, false⟩

/-- A job. -/
def job (d : Drop) (k : JobKind) (st : Stage) (attempts : Nat) : Job := ⟨d, k, st, .port .uplink, attempts⟩

/-- The part with one entry and one job of it at the head of its queue. -/
def withJob (d : Drop) (e : Entry) (j : Job) : State := (base.setEntry d e).setQueue d.branch [j]

/-- The part with a branch in a window. -/
def inWindow (s : State) (b : Branch) (w : Window) : State := s.setBranch b { s.branch b with window := w }

/-- The part in a branch's RANGE_LISTEN with its range counter as given. -/
def counting (s : State) (b : Branch) (c : RangeCounter) : State :=
  s.setBranch b { s.branch b with window := .rangeListen, rangeCounter := some c }

/-- A planned drop whose job waits. -/
def waitingPart : State := withJob 63 (ent .planned none) (job 63 .activate .waiting 0)

/-- An admitting drop. -/
def admittingPart : State := withJob 0 (ent .ranging (some 5)) (job 0 .rejoin .admitting 1)

/-- A supervised drop on branch 1. -/
def activePart : State := base.setEntry 16 (seen .active 5 (record 3))

/-- A ranging drop on branch 1. -/
def rangingPart : State := withJob 16 (ent .ranging (some 5)) (job 16 .rejoin .range 1)

/-- The state a command leaves, for the tests. -/
def after (r : Result) : State :=
  match r with
  | .next t => t
  | _ => .reset

/-- The status of the response a port is about to send. -/
def status? (s : State) (p : Port) : Option Status :=
  match (s.port p).answer with
  | .answering (some x) => some x.status
  | _ => none

/-- The data of the response a port is about to send. -/
def data? (s : State) (p : Port) : Option (List Byte) :=
  match (s.port p).answer with
  | .answering (some x) => some x.data
  | _ => none

/-- An arrival of a serial. -/
def arrived (n : Serial) (age : Nat) : Arrival := ⟨n, 0, 50, none, age, 1, false⟩

/-- A branch list with some arrivals. -/
def listing (s : State) (b : Branch) (items : List Arrival) : State := s.setArrivals b ⟨items, 0⟩

/-! ## Well-formedness: each check refuses an ill-formed term -/

theorem test_wf_refuses_long_parameters : (Instr.plan (req .uplink (List.replicate 41 0))).wf = false := by decide

theorem test_wf_takes_longest_parameters : (Instr.plan (req .uplink (List.replicate 40 0))).wf = true := by decide

theorem test_wf_refuses_known_request_kind : (Instr.unknownRequest 0x25 (req .uplink [])).wf = false := by decide

theorem test_wf_takes_unknown_request_kinds :
    (Instr.unknownRequest 0x26 (req .uplink [])).wf = true ∧ (Instr.unknownRequest 0 (req .uplink [])).wf = true := by
  decide

theorem test_wf_refuses_known_burst_kind :
    (Instr.unknownKindBurst 0 4 (cleanBurst 4 0 1 [])).wf = false ∧
      (Instr.unknownKindBurst 0 5 (cleanBurst 6 0 1 [])).wf = false ∧
      (Instr.unknownKindBurst 0 5 (cleanBurst 5 0 1 [])).wf = true := by decide

theorem test_wf_refuses_header_of_another_kind :
    (Instr.hello 0 (cleanBurst 2 0 1 [])).wf = false ∧ (Instr.matchReply 0 (cleanBurst 1 0 1 [])).wf = false ∧
      (Instr.rangeReply 0 (cleanBurst 4 0 1 [])).wf = false ∧
      (Instr.presence 0 (cleanBurst 3 0 1 [])).wf = false ∧ (Instr.hello 0 (cleanBurst 1 0 1 [])).wf = true := by
  decide

theorem test_wf_refuses_nine_preamble_symbols :
    (Instr.hello 0 { cleanBurst 1 0 1 [] with preambleErrors := List.replicate 9 false }).wf = false := by decide

theorem test_wf_refuses_header_after_short_preamble :
    (Instr.hello 0 { cleanBurst 1 0 1 [] with preambleErrors := List.replicate 7 false, body := [] }).wf = false := by
  decide

theorem test_wf_refuses_symbols_without_header :
    (Instr.badBurst 0 1 { cleanBurst 1 0 1 [] with header := none }).wf = false := by decide

theorem test_wf_refuses_parts_a_burst_does_not_reach :
    (Instr.badBurst 0 1 { cleanBurst 1 0 1 [] with preambleErrors := [], header := none, body := [], upTo := .preamble
      }).wf = false ∧
    (Instr.badBurst 0 1 { cleanBurst 1 0 1 [] with header := none, body := [], upTo := .header }).wf = false ∧
    (Instr.badBurst 0 9 { cleanBurst 9 0 1 [] with body := [0, 0, 0, 0], upTo := .grace }).wf = false ∧
    (Instr.badBurst 0 9 { cleanBurst 9 0 1 [] with body := [0, 0, 0, 0, 0], upTo := .grace }).wf = true := by decide

theorem test_no_word_spells_a_command : decodeTableWord 8 1 = none ∧ decodeTableWord 32 0 = none := by decide

/-! ## Figures the spec works out -/

/-- The level table after R7. -/
theorem test_effective_levels :
    effectiveLevel 40 64 = 40 ∧ effectiveLevel 40 70 = 46 ∧ effectiveLevel 20 50 = 6 ∧ effectiveLevel 10 30 = 0 ∧
      effectiveLevel 120 64 = 100 ∧ effectiveLevel 90 80 = 100 ∧ effectiveLevel 18 70 = 24 := by decide

/-- The four binding codes of R52 and the observed sequence of 13.3. -/
theorem test_codes :
    bindingCode 0 = 0xECA ∧ bindingCode 1 = 0xE6C ∧ bindingCode 2 = 0xE99 ∧ bindingCode 3 = 0xE35 ∧
      observedOf 0b101100111111 8 = 0b101100110000 := by decide

/-- The check value of the common form of the cyclic check (log entry 26), over "123456789". -/
theorem test_cyclic_check : crc16 [0x31, 0x32, 0x33, 0x34, 0x35, 0x36, 0x37, 0x38, 0x39] = 0x29B1 := by
  decide +kernel

/-- The body of 13.1's commit in the layout of 12.4: tag, plot, provider, serial, offset, delay, sequence. -/
theorem test_slot_body_bytes :
    (SlotBody.filled ⟨318, 2, 0x5C01A2007720, 64, 2260, 31⟩).bytes.length = 16 ∧
      slotBodyOf (SlotBody.filled ⟨318, 2, 0x5C01A2007720, 64, 2260, 31⟩).bytes =
        some (.filled ⟨318, 2, 0x5C01A2007720, 64, 2260, 31⟩) := by decide

/-- A written header gives the factory settings back. -/
theorem test_header_round_trip :
    (StoreRecord.blank.written (headerBytes .factory 0x264)).headerBody = some (.factory, 0x264) := by decide +kernel

/-- A response frame of 12.2: marker, tag, kind, status, data length, data, check. -/
theorem test_response_frame :
    (Response.frame ⟨7, 0x18, .ok, [20]⟩).take 6 = [0x3C, 7, 0x18, 0, 1, 20] ∧
      (Response.frame ⟨7, 0x18, .ok, [20]⟩).length = 8 ∧ Status.unknownRequest.code = 0x16 := by decide

/-- The first bytes of the entry read-out of 13.1, from the drop to the serial. -/
theorem test_entry_read_out :
    let e := { ent .active (some 0x5C01A2007720) with plot := 318, provider := 2 }
    ((base.setEntry 45 e).entryBytes 45).take 13 =
      [45, 2, 5, 0x11, 1, 62, 2, 0x5C, 0x01, 0xA2, 0x00, 0x77, 0x20] := by decide +kernel

/-! ## Single commands -/

/-- The first step of a part after reset with STARTUP_SCAN_END in front opens it in SURVEY, in HOLD at 9.0 V (R171). -/
theorem test_scan_end_from_reset :
    let t := after (exec .startupScanEnd .reset)
    t.startup = .running ∧ t.mode = .hold ∧ t.resume = .survey ∧ t.monitor = .low := by decide +kernel

/-- 13.1: PLAN of drop 45, and CLAIM of it by Field 1. -/
theorem test_plan_and_claim :
    let t := after (exec (.plan (req .uplink [45, 1, 62, 2])) base)
    status? t .uplink = some .ok ∧ (t.entry 45).state = .planned ∧ (t.entry 45).plot = 318 ∧
      let u := after (exec (.claim (req .field1 [45])) t)
      data? u .field1 = some [20] ∧ u.claim 45 = some ⟨.field1, 20⟩ := by decide +kernel

/-- 13.1: the ACTIVATE joins an empty queue and starts at once with generator 0 and branch 2's code. -/
theorem test_activate_starts :
    let t := after (exec (.activate (req .uplink [45])) (base.setEntry 45 (ent .planned none)))
    status? t .uplink = some .queued ∧ t.queue 2 = [⟨45, .activate, .waitTrace, .port .uplink, 0⟩] ∧
      (t.gen 0).attached = some (45, .binding 2) ∧ (t.gen 0).observed = 0b111010011001 := by decide +kernel

/-- 13.1: the third frame mark begins the match. -/
theorem test_third_mark_sends_match_call :
    let s := (withJob 45 (ent .planned none) (job 45 .activate .waitTrace 0))
    let t := after (exec .frameMark (s.setBranch 2 { s.branch 2 with frameMarks := some 2 }))
    (t.entry 45).state = .binding ∧ (t.branch 2).window = .matchListen ∧ (t.branch 2).listenMs = some 960 ∧
      (t.lane 2).calls = [.matchCall 0b111010011001] := by decide +kernel

/-- 13.1: the range reply at 940 sets the delay 2260 and sends ADMIT. -/
theorem test_range_reply :
    let s := counting (withJob 45 (ent .ranging (some 0x5C01A2007720)) (job 45 .activate .range 1)) 2 ⟨940, false⟩
    let t := after (exec (.rangeReply 2 (cleanBurst 3 0 0x5C01A2007720 [])) s)
    (t.entry 45).delay = some 2260 ∧ (t.queue 2).head?.map Job.stage = some .admitting ∧
      (t.lane 2).calls = [.admitCall 0x5C01A2007720 2260 1] ∧ (t.branch 2).window = .none := by decide +kernel

/-- 4.8: a burst of kind 11 on branch 1. -/
theorem test_unknown_kind_burst :
    let t := after (exec (.unknownKindBurst 1 11 (cleanBurst 11 0 1 [])) base)
    (t.lane 1).flags = 0x100 ∧ (t.lane 1).count = 1 ∧ t.unknown.entries[0] = some (1, 11) := by decide +kernel

/-- 4.8: one error in preamble symbol 7 under STRICT and recovery CLOSE closes the lane. -/
theorem test_lost_preamble_closes :
    let s := { base with settings := { base.settings with recovery := .close } }
    let x := { cleanBurst 4 0 1 [] with
      preambleErrors := [false, false, false, false, false, false, true, false] }
    (after (exec (.badBurst 1 4 x) s)).lane 1 = ⟨2, 1, 0, true, none, []⟩ := by decide +kernel

/-- 7.8: the 60th tick of the 100 ms train silences the entry. -/
theorem test_silence_at_limit :
    let t := after (exec .presenceTick { base.setEntry 22 (seen .active 5 (record 59)) with baseTick := 1 })
    (t.entry 22).state = .silent ∧ (t.entry 22).presence = some ⟨60, 0, 2, 60, true, false⟩ ∧
      (t.port .field2).events = Event.silence.bit ∧ t.lamp 22 = true := by decide +kernel

/-- 8.6: the fifth minute tick ends the claim with lease 1 left, and tells Field 1 alone. -/
theorem test_lease_lapses :
    let t := after (exec .minuteTick (base.setClaim 33 (some ⟨.field1, 1⟩)))
    t.claim 33 = none ∧ t.lapsed .field1 33 = true ∧ (t.port .field1).events = 0x8000 ∧
      (t.port .uplink).events = 0 := by decide +kernel

/-- A REVOKE and a lapse free the holder's generator for the binding job that waits for one (R117, R138, R139). -/
theorem test_ended_claim_frees_a_generator :
    let s := (allGens.foldl (fun (t : State) (g : Gen) => t.setGen g
      ⟨some (⟨g.val, by omega⟩, .port .field1), 0x800 ||| g.val, 12, .cleared⟩)
        (withJob 45 (ent .planned none) (job 45 .activate .waitTrace 0))).setClaim 3 (some ⟨.field1, 1⟩)
    ∀ t ∈ [after (exec (.revoke (req .uplink [3])) s), after (exec .minuteTick s),
        after (exec (.claimLapse 3) (s.setClaim 3 (some ⟨.field1, 0⟩)))],
      t.claim 3 = none ∧ (t.gen 3).attached = some (45, .binding 2) ∧ (t.branch 2).frameMarks = some 0 ∧
        (t.gen 2).attached = some (2, .port .field1) := by decide +kernel

/-- 10.8: level 113 at alarm level A2 puts a LIVE part in HOLD, and 116 takes it back. -/
theorem test_dip_and_recovery :
    let t := after (exec (.supplyLevel 113) base)
    t.mode = .hold ∧ t.monitor = .low ∧ t.resume = .live ∧
      (after (exec (.supplyLevel 115) t)).mode = .hold ∧ (after (exec (.supplyLevel 116) t)).mode = .live := by
  decide +kernel

/-- 10.8: level 89 is a power-on reset, held until 90. -/
theorem test_power_on_hold :
    let t := after (exec (.supplyLevel 89) base)
    t.startup = .held ∧ (t.port .field1).causes = ⟨true, false, false, false⟩ ∧
      (after (exec (.supplyLevel 90) t)).startup = .scanning false := by decide +kernel

/-- A RESTART with no write in flight goes out and resets; READ_RESET_CAUSE then tells it during the scan (R168, R172). -/
theorem test_restart :
    let t := after (exec (.restart (req .uplink [])) base)
    t.startup = .scanning false ∧ (t.port .uplink).sent.map Response.status = [.ok] ∧
      data? (after (exec (.readResetCause (req .uplink [])) t)) .uplink = some [0x09] := by decide +kernel

/-- A frame whose start marker came before the port took frames is lost, and is not counted (R174 to R176). -/
theorem test_frame_begun_too_early_is_lost :
    let t := after (exec (.readSupply { req .uplink [] with inTime := false }) base)
    let u := after (exec (.badFrame ⟨.uplink, false⟩) base)
    (t.port .uplink).answer = .ready ∧ (u.port .uplink).badFrames = 0 ∧
      ((after (exec (.badFrame ⟨.uplink, true⟩) base)).port .uplink).badFrames = 1 := by decide +kernel

/-- 12.4: a HELLO of provider tag 2 with a 3-symbol payload; the unused bit of symbol 9 is ignored. -/
theorem test_header_layout :
    headerSymbols 1 2 0x5C01A2007720 3 = 0x145C01A200772003 ∧ (Header.mk .noError 0x155C01A200772003).kind = 1 ∧
      (Header.mk .noError 0x155C01A200772003).tag = 2 ∧ (Header.mk .noError 0x155C01A200772003).serial = 0x5C01A2007720 ∧
      (Header.mk .noError 0x155C01A200772003).length = 3 := by decide

/-- A burst of kind 11 with an error in preamble symbol 8. -/
def marred : Burst :=
  { cleanBurst 11 0 1 [] with preambleErrors := [false, false, false, false, false, false, false, true] }

/-- A repair stands from the moment it is found: a CLEAR_LANE within the burst clears it, and the end adds UNKNOWN_KIND alone;
given whole, the burst leaves both flags (R79, R92). -/
theorem test_clear_lane_within_a_burst :
    let s := { base with settings := { base.settings with tolerance := .lenient } }
    let t := after (exec (.unknownKindBurst 1 11 { marred with upTo := .preamble }) s)
    let u := after (exec (.clearLane (req .uplink [1])) t)
    let lane := fun v => (after (exec (.unknownKindBurst 1 11 marred) v)).lane 1
    t.lane 1 = ⟨1, 1, 0, false, some ⟨.lenient, .preamble, none, true⟩, []⟩ ∧ lane u = ⟨0x100, 1, 0, false, none, []⟩ ∧
      lane s = ⟨0x101, 2, 0, false, none, []⟩ ∧ lane t = lane s := by decide +kernel

/-- The tolerance is that in force when the preamble begins (R80, log entry 11). -/
theorem test_tolerance_of_the_begin :
    let begun := after (exec (.badBurst 1 11 { marred with upTo := .begun })
      { base with settings := { base.settings with tolerance := .lenient } })
    ((after (exec (.unknownKindBurst 1 11 marred) { begun with settings := base.settings })).lane 1).flags = 0x101 ∧
      ((after (exec (.badBurst 1 11 marred) base)).lane 1).flags = 2 := by decide +kernel

/-- A burst begun before a reset, during the scan, or on a CLOSED lane is ignored though its end comes to an open part, and the
next burst is taken (R78, R92). -/
theorem test_burst_begun_too_early_is_ignored :
    let hello := cleanBurst 1 0 5 (payloadOf 50 0)
    let part := fun (p : BurstPart) (v : State) => after (exec (.hello 1 { hello with upTo := p }) v)
    let opened := fun v => inWindow (after (exec .startupScanEnd v)) 1 .openCall
    let closed := fun c v => State.setLane v 1 { v.lane 1 with closed := c }
    ∀ s ∈ [opened (after (exec (.restart (req .uplink [])) (part .begun base))), opened (part .begun State.reset),
        inWindow (closed false (part .header (closed true base))) 1 .openCall],
      s.startup = .running ∧ part .ended s = s.setReception 1 none ∧
        ((part .ended (part .ended s)).arrivalsOf 1).items.map Arrival.serial = [5] := by decide +kernel

/-- An OVERRUN is found before the light ends, and the rest of a burst that closed its lane is discarded even after a
CLEAR_LANE (R81, R83). -/
theorem test_discarded_rest :
    let long := { cleanBurst 9 0 1 [] with body := [0, 0, 0, 0, 0] }
    let s := { base with settings := { base.settings with recovery := .close } }
    let u := after (exec (.clearLane (req .uplink [1])) (after (exec (.badBurst 1 11 { marred with upTo := .preamble }) s)))
    ((after (exec (.badBurst 1 9 { long with upTo := .header }) base)).lane 1).flags = 0 ∧
      ((after (exec (.badBurst 1 9 { long with upTo := .grace }) base)).lane 1).flags = FaultKind.overrun.bit ∧
      (after (exec (.badBurst 1 11 marred) u)).lane 1 = ⟨0, 0, 0, false, none, []⟩ := by decide +kernel

/-- A lowered age limit acts from the next minute tick: an arrival of age 7 stays until that tick reads the limit 5 (R103). -/
theorem test_lowered_age_limit :
    let s := { listing base 0 [arrived 5 7] with ageLimitRead := some 10 }
    let t := after (exec (.setSetting (req .uplink [9, 0, 5])) s)
    t.settings.ageLimit = 5 ∧ ((after (exec (.arrivalAgeOut 0 5) t)).arrivalsOf 0).items = [arrived 5 7] ∧
      ((after (exec .minuteTick t)).arrivalsOf 0).items = [] := by decide +kernel

/-- A further call falls due during the first one, and goes out as that one ends (R36, R37). -/
theorem test_call_due_during_the_first_call :
    let s := after (exec .startupScanEnd { State.reset with supply := 200 })
    let t := after (exec (.openCallDue 0) s)
    let u := after (exec (.openCallEnd 0) t)
    (s.branch 0).openTimer = some 20 ∧ (t.branch 0).openDue = true ∧ (t.branch 0).window = .openCall ∧
      (u.lane 0).calls = [.openCall 0, .openCall 0] ∧ (u.branch 0).openTimer = some 20 := by decide +kernel

/-- The kind of tie that R21 and R31 leave: a hello's REJOIN job starts at once in LIVE, and WITHDRAW and ACTIVATE are then
answered WRONG_STATE (R18, R30, R73, log entry 29). -/
theorem test_requests_after_a_rejoin_started :
    let s := after (exec (.hello 1 (cleanBurst 1 0 5 (payloadOf 50 0))) (inWindow activePart 1 .openCall))
    (s.entry 16).state = .ranging ∧ status? (after (exec (.withdraw (req .uplink [16])) s)) .uplink = some .wrongState ∧
      status? (after (exec (.activate (req .uplink [16])) s)) .uplink = some .wrongState := by decide +kernel

/-- A reply counts with the range counter and mark of its preamble, whatever they have come to since (R61, R62, R77). -/
theorem test_overflow_after_the_preamble :
    let s := counting (withJob 40 (ent .ranging (some 5)) (job 40 .activate .range 1)) 2 ⟨3000, false⟩
    let part := fun (p : BurstPart) (v : State) =>
      after (exec (.rangeReply 2 { cleanBurst 3 0 5 [] with upTo := p }) v)
    let marked := fun v => after (exec (.rangeCounterOverflow 2) v)
    ((part .ended (marked (part .begun s))).entry 40).delay = some 200 ∧
      ((part .ended (part .begun (marked s))).entry 40).lastResult = .rangeFar ∧
      ((part .ended (marked s)).entry 40).lastResult = .rangeFar := by decide +kernel

/-- The round trip is counted by the part: three range units between the RANGE_CALL and the reply's preamble, and more before
its end (R60, R61). -/
theorem test_round_trip_is_counted :
    let s := (withJob 40 (ent .ranging (some 5)) (job 40 .activate .range 0)).grant 2
    let idle := fun v => after (step v)
    let t := after (exec (.rangeReply 2 { cleanBurst 3 0 5 [] with upTo := .begun }) (idle (idle (idle s))))
    let u := after (exec (.rangeReply 2 (cleanBurst 3 0 5 [])) (idle (idle t)))
    (u.entry 40).roundTrip = some 3 ∧ (u.entry 40).delay = some 3197 := by decide +kernel

/-- A reply whose preamble began before the RANGE_CALL of the try is ignored, be it one that began in the try before, and the
next one is judged (R61). -/
theorem test_reply_begun_before_the_range_call :
    let s := (withJob 40 (ent .ranging (some 5)) (job 40 .activate .range 0)).grant 2
    let part := fun (p : BurstPart) (v : State) =>
      after (exec (.rangeReply 2 { cleanBurst 3 0 5 [] with upTo := p }) v)
    let retry := after (exec (.rangeListenTimeout 2) (part .begun s))
    let ignored := part .ended retry
    (retry.queue 2).head?.map Job.attempts = some 2 ∧ (retry.branch 2).window = .rangeListen ∧
      ignored = retry.setReception 2 none ∧ ((part .ended ignored).entry 40).roundTrip = some 0 := by decide +kernel

/-! ## Witnesses: a state and operands that meet each statement's hypotheses, clause by clause -/

/-- StepRunsFrontCommand, IdleStepLetsTimePass. -/
theorem test_witness_steps :
    { base with pending := [.frameMark] }.pending = .frameMark :: [] ∧ State.reset.pending = [] ∧
      State.reset.startup = .scanning false ∧ base.pending = [] ∧ base.startup = .running := by decide

/-- ReadsAnswerAndChangeNothing, ReadAndClearOwnCopy, EventsMasksAndAlertLines: drops 0 and 63, branch 3, generator 7, the
header; a scan. -/
theorem test_witness_reads :
    base.Takes (req .uplink [0]) ∧ base.Takes (req .field2 [0]) ∧ (∀ p l, (req p l).inTime = true) ∧
      Event.moved ≠ .claimEnded ∧ (req .uplink [0]).params = [byteOf (0 : Drop).val] ∧
      (req .uplink [63]).params = [byteOf (63 : Drop).val] ∧ (req .field1 [3]).params = [byteOf (3 : Branch).val] ∧
      (req .field1 [7]).params = [byteOf (7 : Gen).val] ∧ (req .uplink [0xFF]).params = [0xFF] ∧
      State.reset.startup = .scanning false ∧ State.reset.startup ≠ .held ∧
      (State.reset.port .field1).answer = .ready ∧ (State.reset.port .field1).ignoring = false ∧
      (req .uplink [0x12, 0x34]).params = [0x12, 0x34] := by
  refine ⟨?_, ?_, fun _ _ => rfl, ?_⟩ <;> decide

/-- ReadOutLayout: a presence record and a claim. -/
theorem test_witness_read_out :
    ((base.setEntry 22 (seen .active 5 (record 3))).entry 22).presence = some (record 3) ∧
      (base.setClaim 33 (some ⟨.field1, 5⟩)).claim 33 = some ⟨.field1, 5⟩ := by decide

/-- PortUnitGatesEveryRequest, TakenRequestsAreAnsweredAndRefusalsChangeNothing, clause by clause. -/
theorem test_witness_gates :
    request? (.plan (req .uplink [])) = some (.plan, req .uplink []) ∧
      State.reset.startup = .scanning false ∧ (State.reset.port .uplink).answer = .ready ∧
      RequestKind.plan ≠ .readIdentity ∧
      ((after (exec (.readSupply (req .uplink [])) base)).port .uplink).answer ≠ .ready ∧
      base.Open .field1 ∧
      (Port.field1 ≠ .uplink ∧ RequestKind.plan ∈ [RequestKind.readStore, .plan]) ∧
      RequestKind.plan.permits .uplink = true ∧ ([] : List Byte).length ∉ [4] ∧ RequestKind.plan ≠ .restart := by decide

/-- LinkEventsCountAndRelease: a port that takes frames, one that ignores bytes, one that answers. -/
theorem test_witness_link :
    let i := base.setPort .uplink { base.port .uplink with ignoring := true }
    let a := after (exec (.readSupply (req .uplink [])) base)
    (base.startup ≠ .held ∧ (base.port .uplink).answer = .ready ∧ (base.port .uplink).ignoring = false) ∧
      (i.port .uplink).ignoring = true ∧
      ((a.port .uplink).ignoring = false ∧ (a.port .uplink).answer ≠ .ready) ∧
      (a.port .uplink).answer = .answering (some ⟨7, 0x09, .ok, a.supplyBytes⟩) := by decide +kernel

/-- PlanAndUnplan: plots 1 and 4095, providers 1 and 7; each entry state and job the clauses name. -/
theorem test_witness_plan :
    (req .uplink [0, 0, 1, 1]).params = [byteOf (0 : Drop).val, byteOf (1 / 256), byteOf 1, byteOf 1] ∧
      (req .uplink [63, 15, 255, 7]).params = [byteOf (63 : Drop).val, byteOf (4095 / 256), byteOf 4095, byteOf 7] ∧
      base.Open .uplink ∧ base.mode ≠ .survey ∧ base.claim 0 = none ∧ (base.entry 0).state = .vacant ∧
      (let s := base.setEntry 0 (ent .planned none); (s.entry 0).state = .planned ∧ s.jobOf 0 = none) ∧
      (let s := withJob 0 (ent .planned none) (job 0 .activate .waiting 0);
        (s.entry 0).state = .planned ∧ s.jobOf 0 ≠ none) ∧
      ((base.setEntry 0 (ent .blocked none)).entry 0).state = .blocked ∧
      ((base.setEntry 0 (ent .bound (some 5))).entry 0).state = .bound := by decide

/-- WithdrawUnbindsTerminal, UnblockMakesPlanned, SetOffsetAndClearSilence. -/
theorem test_witness_roster :
    (let s := base.setEntry 0 (ent .active (some 5)); s.Open .uplink ∧ s.mode ≠ .survey ∧ s.claim 0 = none ∧
      (s.entry 0).state = .active ∧ (s.entry 0).serial = some 5) ∧
    (let s := base.setEntry 0 (ent .bound (some 5)); (s.entry 0).state = .bound ∧ s.jobOf 0 = none) ∧
    (let s := withJob 0 (ent .bound (some 5)) (job 0 .rejoin .waiting 0); (s.entry 0).state = .bound ∧ s.jobOf 0 ≠ none) ∧
    (base.entry 0).state ∉ [EntryState.active, .silent, .bound] ∧
    (let s := base.setEntry 0 (ent .blocked none); s.Open .uplink ∧ (s.entry 0).state = .blocked ∧
      (s.entry 0).serial = none) ∧
    (base.entry 0).state ≠ .blocked ∧
    (req .uplink [0, 127, 1]).params = [byteOf (0 : Drop).val, byteOf 127, byteOf OffsetSource.store.code] ∧
    (let s := (base.setEntry 63 (seen .silent 5 (record 60))).setClaim 63 (some ⟨.field1, 5⟩);
      s.Open .field1 ∧ s.mayAct .field1 63 = true ∧ (s.entry 63).state = .silent ∧
      (s.entry 63).presence = some (record 60)) ∧
    (base.mayAct .uplink 0 = true ∧ (base.entry 0).state ≠ .silent) := by decide

/-- PresenceBurstsCountAndJudgeLevel: an ACTIVE entry heard without an echo at levels 0 and 127, and a SILENT one. -/
theorem test_witness_presence :
    (let s := base.setEntry 16 (seen .active 5 (record 3));
      s.Listening (16 : Drop).branch ∧ (5 : Serial) ≠ 0 ∧ (127 : Nat) ≤ 127 ∧ (s.entry 16).serial = some 5 ∧
      (∀ e : Drop, e ≠ 16 → (s.entry e).serial ≠ some 5) ∧ (s.entry 16).state = .active ∧
      (s.entry 16).presence = some (record 3) ∧
      ∀ g, (s.gen g).attached.isSome = true → (s.gen g).observed ≠ 0) ∧
    (let s := base.setEntry 16 (seen .silent 5 (record 60));
      (s.entry 16).state = .silent ∧ (s.entry 16).presence = some (record 60)) ∧
    (let s := base.setEntry 16 { ent .bound (some 5) with offsetSource := .store };
      (s.entry 16).offsetSource = .store ∧ s.image 16 = .never ∧
      (s.setImage 16 (.filled ⟨1, 1, 5, 70, 9, 1⟩)).image 16 = .filled ⟨1, 1, 5, 70, 9, 1⟩) := by decide

/-- ActivateQueuesOrRefuses: PLANNED and BOUND entries in LIVE, and in HOLD a queue of five with no claimant. -/
theorem test_witness_activate :
    (let s := base.setEntry 45 (ent .planned none);
      s.Open .uplink ∧ s.mayAct .uplink 45 = true ∧ s.mode = .live ∧ s.jobOf 45 = none ∧
      (s.queue (45 : Drop).branch).length < 6 ∧ (s.entry 45).state = .planned) ∧
    (let s := (base.setEntry 45 (ent .bound (some 5))).setQueue 2
        [job 32 .activate .waiting 0, job 33 .activate .waiting 0, job 34 .activate .waiting 0,
          job 35 .activate .waiting 0, job 36 .activate .waiting 0];
      let h := { s with mode := .hold, monitor := .low };
      h.mode = .hold ∧ h.resume = .live ∧ h.jobOf 45 = none ∧ (h.queue (45 : Drop).branch).length = 5 ∧
      (h.entry 45).state = .bound ∧ (h.branch (45 : Drop).branch).openDue = false ∧
      ∀ j ∈ (h.queue (45 : Drop).branch).head?, j.stage = .waiting ∨ j.stage = .admitting) := by decide

/-- HeadStartsAndWindowIsGranted, clause by clause. -/
theorem test_witness_heads :
    (let s := withJob 0 (ent .bound (some 5)) (job 0 .rejoin .waiting 0);
      s.queue 0 = job 0 .rejoin .waiting 0 :: [] ∧ s.mode = .live ∧ (s.entry 0).state = .bound) ∧
    (let s := withJob 0 (ent .planned none) (job 0 .activate .waiting 0);
      s.queue 0 = job 0 .activate .waiting 0 :: [] ∧ (s.branch 0).frameMarks = none ∧ s.genOn 0 = none ∧
      s.freeGen = some 0 ∧
      (s.setGen 0 ⟨some (0, .port .uplink), 0x800, 12, .cleared⟩).genOn 0 ≠ none) ∧
    ({ base with mode := .survey }.mode ≠ .live ∧ ((inWindow base 3 .openCall).branch 3).window ≠ .none) ∧
    (let s := base.setBranch 3 { base.branch 3 with openDue := true };
      (s.branch 3).window = .none ∧ (s.branch 3).openDue = true) ∧
    (let s := withJob 0 (ent .binding none) (job 0 .activate .matching 0);
      (s.branch 0).window = .none ∧ (s.branch 0).openDue = false ∧ s.queue 0 = job 0 .activate .matching 0 :: []) ∧
    (let s := withJob 0 (ent .ranging (some 5)) (job 0 .rejoin .range 0);
      (s.branch 0).window = .none ∧ (s.entry 0).serial = some 5 ∧ s.queue 0 = job 0 .rejoin .range 0 :: []) ∧
    (∀ j ∈ (base.queue 0).head?, j.stage ≠ .matching ∧ j.stage ≠ .range) := by decide

/-- The job laws hold of these parts. -/
theorem test_witness_job_laws :
    waitingPart.JobInv ∧ admittingPart.JobInv ∧ activePart.JobInv ∧ rangingPart.JobInv := by
  refine ⟨?_, ?_, ?_, ?_⟩ <;> decide +kernel

/-- The serial laws hold of these parts. -/
theorem test_witness_serial_laws : activePart.SerialInv ∧ rangingPart.SerialInv := by
  refine ⟨?_, ?_⟩ <;> decide +kernel

/-- EndedJobLeavesItsQueue, CancelEndsJobByStage: a job in WAITING with no generator, one in ADMIT, and a drop without one. -/
theorem test_witness_job_ends :
    (job 63 .activate .waiting 0 ∈ waitingPart.queue (63 : Drop).branch ∧
      waitingPart.jobOf 63 = some (job 63 .activate .waiting 0) ∧
      (∀ g, (waitingPart.gen g).attached ≠ some (63, .binding 3)) ∧ (ent .planned none).rejoinPending = false) ∧
    (admittingPart.Open .uplink ∧ admittingPart.mayAct .uplink 0 = true ∧
      admittingPart.jobOf 0 = some (job 0 .rejoin .admitting 1) ∧ (admittingPart.entry 0).serial = some 5) ∧
    base.jobOf 0 = none := by decide +kernel

/-- TraceAttachesOrRefuses, UntraceDetachesAndFreedGeneratorIsOffered, SequencesLinesAndEchoes. -/
theorem test_witness_traces :
    ((req .uplink [63, 8, 0, 8]).params = [byteOf (63 : Drop).val, byteOf ((0x800 : Steps).toNat / 256),
        byteOf (0x800 : Steps).toNat, byteOf 8] ∧ 8 ∈ [8, 9, 10, 12] ∧ observedOf 0x800 8 ≠ 0 ∧
      (∀ b, bindingCode b ≠ observedOf 0x800 8) ∧
      (∀ h, (base.gen h).attached.isSome = true → (base.gen h).observed ≠ observedOf 0x800 8) ∧
      (base.gen 0).attached = none ∧ ∀ h : Gen, h < 0 → (base.gen h).attached ≠ none) ∧
    (let s := base.setGen 7 ⟨some (63, .port .uplink), 0x800, 12, .cleared⟩;
      (s.gen 7).attached = some (63, .port .uplink) ∧ (s.gen 7).observed = 0x800 ∧ s.mayAct .uplink 63 = true ∧
      (∀ h, (s.gen h).on 63 = true → h = 7) ∧ (∀ b, (s.queue b).head?.map Job.stage ≠ some .waitTrace) ∧
      s.frame = some ⟨80, 1⟩ ∧ s.genOn 63 = some 7 ∧ s.genOn 0 = none ∧
      ∀ h, (s.gen h).attached.isSome = true → (s.gen h).observed = 0x800 → h = 7) ∧
    (let s := base.setGen 7 ⟨some (63, .port .field1), 0x800, 12, .cleared⟩;
      (s.gen 7).attached = some (63, .port .field1) ∧ Owner.port .field1 ≠ .port .uplink) ∧
    (let s := withJob 0 (ent .planned none) (job 0 .activate .waitTrace 0);
      (0 : Branch) = s.lastServed + 1 + (0 : Fin 4) ∧ s.queue 0 = job 0 .activate .waitTrace 0 :: [] ∧
      (s.branch 0).frameMarks = none ∧ s.genOn 0 = none ∧
      ∀ k : Fin 4, k < 0 → s.bindingWait (s.lastServed + 1 + k) ≠ some .eligible) ∧
    (∀ b, base.bindingWait b ≠ some .eligible) := by decide +kernel

/-- TraceAttachesOrRefuses: the first number beyond each range of its parameters. -/
theorem test_witness_trace_ranges :
    base.Takes (req .uplink [64, 16, 0, 11]) ∧ 64 ≤ (64#8).toNat ∧ 16 ≤ (16#8).toNat ∧ (7#8).toNat ∉ [8, 9, 10, 12] ∧
      (11#8).toNat ∉ [8, 9, 10, 12] ∧ (13#8).toNat ∉ [8, 9, 10, 12] := by decide

/-- ClaimAndRenewSetLease, ReleaseEndsClaimWithoutEvent, RevokeEndsClaimWithEvent, clause by clause. -/
theorem test_witness_claims :
    (let s := base.setClaim 63 (some ⟨.field1, 5⟩);
      s.Open .field1 ∧ s.Open .field2 ∧ s.Open .uplink ∧ s.claim 63 = some ⟨.field1, 5⟩ ∧ s.claim 0 = none ∧
      s.claimCount .field1 < 8 ∧ Port.field1 = FieldPort.field1.port ∧
      (after (exec (.revoke (req .uplink [63])) s)).lapsed .field1 63 = true ∧ s.lapsed .field2 63 = false) ∧
    (let s := [0, 1, 2, 3, 4, 5, 6, 7].foldl (fun (t : State) (d : Drop) => t.setClaim d (some ⟨.field2, 60⟩)) base;
      s.claim 8 = none ∧ 8 ≤ s.claimCount .field2) ∧
    (State.reset.startup = .scanning false ∧ (req .field1 [64]).params = [byteOf 64] ∧
      (req .field1 [255]).params = [byteOf 255]) := by decide +kernel

/-- StoreWritesSpendMarksAtAcceptance, WriteCompletionReplacesImage: three marks and the level at the commit level. -/
theorem test_witness_writes :
    (let s := ((base.setEntry 9 (ent .active (some 5))).setSlot 9 ⟨3, [], 0, false⟩);
      s.Open .uplink ∧ s.mode = .live ∧ s.claim 9 = none ∧ (s.slot 9).marks < 4 ∧
      { s with supply := 120 }.settings.alarm.threshold + 6 ≤ { s with supply := 120 }.supply ∧ s.controller = .idle ∧
      (s.entry 9).state = .active ∧ (s.entry 9).serial = some 5 ∧ (s.entry 9).delay = some 100 ∧ s.header.marks < 4 ∧
      s.mode ≠ .hold) ∧
    (let s := { base with controller := .writing (.slot 9 (.empty 1)) };
      s.startup = .running ∧ s.controller = .writing (.slot 9 (.empty 1)) ∧ s.restart = none) ∧
    (let s := { base with controller := .writing (.header .factory 0) };
      s.controller = .writing (.header .factory 0) ∧ s.restart = none) ∧
    (let s := { base with controller := .writing (.slot 9 (.empty 1)), restart := some 7 };
      s.restart = some 7 ∧ s.NoHolds) := by decide

/-- StoreGivesBackWhatWasWritten: the limits of the fields, and settings in range. -/
theorem test_witness_store :
    1 ≤ (StoreRecord.mk 1 [] 0 false).marks ∧
      (FilledBody.mk 4095 7 (2 ^ 48 - 1) 127 4095 (2 ^ 24 - 1)).inRange = true ∧
      (FilledBody.mk 1 1 1 0 0 1).inRange = true ∧ 2 ^ 24 - 1 < 2 ^ 24 ∧
      Settings.factory.put .alarm (Settings.factory.value .alarm) = some .factory ∧
      Settings.factory.put .acceptLow (Settings.factory.value .acceptLow) = some .factory := by decide

/-- The settings premise of StoreGivesBackWhatWasWritten holds of the factory settings. -/
theorem test_witness_factory_in_range : ∀ k : Setting, Settings.factory.put k (Settings.factory.value k) = some .factory := by
  intro k
  cases k <;> decide

/-- SetSettingAndRanges, ThresholdSettingActsAtOnce: the first and last codes, a repeat, and each supply clause. -/
theorem test_witness_settings :
    (base.Open .uplink ∧ settingOrder[(0 : Fin 16)]? = some .openPeriod ∧ settingOrder[(15 : Fin 16)]? = some .startMode ∧
      (req .uplink [1, 0, 255]).params = [byteOf ((0 : Fin 16).val + 1), byteOf (255 / 256), byteOf 255] ∧
      base.settings.put .openPeriod 255 ≠ none ∧ base.settings.put .openPeriod 20 = some base.settings) ∧
    (alarmOf 2 = some .a3 ∧ AlarmLevel.a3 ≠ base.settings.alarm ∧ (req .uplink [14, 0, 2]).params = [0x0E, 0, byteOf 2] ∧
      base.settings.monitorMode = .alarm ∧ base.monitor = .ok ∧
      { base with supply := 119 }.supply < AlarmLevel.a3.threshold ∧ AlarmLevel.a3.threshold ≤ base.supply) ∧
    (alarmOf 0 = some .a1 ∧ AlarmLevel.a1 ≠ base.settings.alarm ∧
      (let s := { base with monitor := .low, mode := .hold, supply := 110 };
        s.monitor = .low ∧ AlarmLevel.a1.threshold + 2 ≤ s.supply ∧ s.supply < AlarmLevel.a3.threshold + 2)) ∧
    (let s := { base with settings := { base.settings with monitorMode := .reset }, supply := 119 };
      s.settings.monitorMode = .reset ∧ s.supply < AlarmLevel.a3.threshold ∧ s.monitor = .ok) := by decide

/-- SetModeAndFill: each mode, with a job and without. -/
theorem test_witness_modes :
    (base.Open .uplink ∧ base.mode = .live ∧ ∀ b, base.queue b = []) ∧
    (let s := { base with mode := .hold, monitor := .low }; s.mode = .hold ∧ s.resume = .live ∧ ∀ b, s.queue b = []) ∧
    (let s := { base with mode := .hold, resume := .survey }; s.mode = .hold ∧ s.resume = .survey) ∧
    (let s := { base with mode := .survey, resume := .survey };
      s.mode = .survey ∧ ∀ d, (s.entry d).rejoinPending = false) ∧
    (withJob 0 (ent .planned none) (job 0 .activate .waiting 0)).queue 0 ≠ [] := by decide

/-- RestartResetsOrWaitsForWrite, ClearLaneAndForgetArrival, UnknownKindRequests. -/
theorem test_witness_uplink_requests :
    (base.Open .uplink ∧ base.controller = .idle ∧ base.NoHolds) ∧
    ({ base with controller := .writing (.slot 9 (.empty 1)) }.controller = .writing (.slot 9 (.empty 1))) ∧
    ((req .uplink [3]).params = [byteOf (3 : Branch).val] ∧ (5 : Serial) ≠ 0 ∧
      (req .uplink [0, 0, 0, 0, 0, 5]).params = beBytes 6 (5 : Serial).toNat ∧
      arrived 5 0 ∈ ((listing base 3 [arrived 5 0]).arrivalsOf 3).items ∧
      ∀ b, ∀ a ∈ (base.arrivalsOf b).items, a.serial ≠ 5) ∧
    (base.startup = .running ∧ (base.port .uplink).answer = .ready ∧ State.reset.startup = .scanning false) := by decide

/-- BurstChecksFindTheirFaults, DiscardedBurstsOnlyMarkTheLane, UnknownKindIsReportedAndOffered. -/
theorem test_witness_bursts :
    ((List.replicate 8 false).count true = 0 ∧ ([false, false, false, false, false, false, false, true].count true = 1) ∧
      2 ≤ (List.replicate 8 true).count true) ∧
    ((0 : Serial) = 0 ∧ 16 < (17#8).toNat ∧ (burstKindOf 1 = some .hello ∧ (2#8).toNat ≠ BurstKind.hello.payloadLength)) ∧
    (base.Listening 3 ∧ (cleanBurst 3 0 0 []).inTime = true ∧
      (inspect base.settings.tolerance (cleanBurst 3 0 0 [])).intact = none) ∧
    ({ base with startup := .held }.startup ≠ .running) ∧
    (base.Listening 0 ∧ (5 : Serial) ≠ 0 ∧ (base.branch 0).window ≠ .openCall ∧ (base.branch 0).window ≠ .matchListen ∧
      (base.branch 0).window ≠ .rangeListen ∧ ∀ d : Drop, d.branch = 0 → (base.entry d).serial ≠ some 5) ∧
    (burstKindOf 0 = none ∧ burstKindOf 15 = none ∧ (List.replicate 16 (0 : Byte)).length ≤ 16 ∧
      (inspect base.settings.tolerance { cleanBurst 15 0 1 [] with
        preambleErrors := [true, false, false, false, false, false, false, false] }).intact ≠ none) ∧
    ((∀ i : Fin 4, base.unknown.entries[i] ≠ some (1, 11)) ∧ base.unknown.entries[(0 : Fin 4)] = none ∧
      base.settings.record &&& FaultKind.doubleReply.bit ≠ 0) := by decide +kernel

/-- The Unknown-Kind clauses with the table full, and with a kind held. -/
theorem test_witness_full_table :
    let s := { base with unknown := ⟨#v[some (0, 5), some (0, 6), some (1, 5), some (3, 15)], true⟩ }
    (∀ i : Fin 4, s.unknown.entries[i] ≠ some (1, 11)) ∧ (∀ i : Fin 4, s.unknown.entries[i] ≠ none) ∧
      s.unknown.overflow = true ∧ s.unknown.entries[(2 : Fin 4)] = some (1, 5) := by decide

/-- HelloAddsOrRefreshesArrival: an empty list, a full one, and a listed serial. -/
theorem test_witness_hellos :
    (let s := inWindow base 3 .openCall;
      s.Listening 3 ∧ (s.branch 3).window = .openCall ∧ (∀ d, (s.entry d).serial ≠ some 5) ∧
      (∀ c, ∀ a ∈ (s.arrivalsOf c).items, a.serial ≠ 5) ∧ (127 : Nat) ≤ 127 ∧
      (∀ g, (s.gen g).attached.isSome = true → (s.gen g).observed ≠ 0) ∧ (s.arrivalsOf 3).items.length < 8) ∧
    (let s := listing (inWindow base 3 .openCall) 3 [arrived 11 0, arrived 12 0, arrived 13 0, arrived 14 0, arrived 15 0,
        arrived 16 0, arrived 17 0, arrived 18 0];
      (∀ c, ∀ a ∈ (s.arrivalsOf c).items, a.serial ≠ 5) ∧ 8 ≤ (s.arrivalsOf 3).items.length ∧
      (s.arrivalsOf 3).items = [arrived 11 0] ++ arrived 12 0 :: [arrived 13 0, arrived 14 0, arrived 15 0,
        arrived 16 0, arrived 17 0, arrived 18 0] ∧ (arrived 12 0).serial = 12) := by decide

/-- HelloOfBoundTerminalAsksForRejoin, HelloOnOtherBranchMovesEntry. -/
theorem test_witness_bound_hellos :
    (activePart.holderOf 5 = some 16 ∧ (activePart.entry 16).state = .active ∧
      (activePart.entry 16).serial = some 5 ∧ (16 : Drop).branch ≠ 0) ∧
    (let s := base.setEntry 16 (ent .bound (some 5)); s.holderOf 5 = some 16 ∧ (s.entry 16).state = .bound ∧
      s.jobOf 16 = none ∧ s.intakeOpen = true ∧ (s.queue (16 : Drop).branch).length < 6) ∧
    (let s := withJob 16 (ent .bound (some 5)) (job 16 .rejoin .waiting 0); s.holderOf 5 = some 16 ∧ s.jobOf 16 ≠ none) ∧
    ((rangingPart.entry 16).state = .ranging ∧ rangingPart.jobOf 16 = some (job 16 .rejoin .range 1)) ∧
    (let s := { base with mode := .survey, resume := .survey }.setEntry 16 (ent .bound (some 5));
      s.intakeOpen = false ∧ (s.entry 16).rejoinPending = false) := by decide +kernel

/-- GoodMatchReplyBindsTerminal, MatchRepliesAreJudgedInOrder: a level equal to accept low, and a decision taken. -/
theorem test_witness_match :
    (let s := listing (inWindow (withJob 40 (ent .binding none) (job 40 .activate .matching 1)) 2 .matchListen) 2
        [arrived 5 0];
      s.Listening 2 ∧ (s.branch 2).window = .matchListen ∧ (s.branch 2).decided = none ∧
      s.queue 2 = job 40 .activate .matching 1 :: [] ∧ (s.entry 40).state = .binding ∧
      (∀ d : Drop, d ≠ 40 → (s.entry d).serial ≠ some 5) ∧ arrived 5 0 ∈ (s.arrivalsOf 2).items ∧
      s.settings.acceptLow ≤ s.levelOf 40 24 ∧ s.levelOf 40 24 ≤ s.settings.acceptHigh ∧
      s.judgeMatch 2 40 ⟨5, 1, 24, bindingCode 2⟩ = .success ∧ s.judgeMatch 2 40 ⟨5, 0, 84, bindingCode 2⟩ = .success ∧
      s.judgeMatch 2 40 ⟨5, 0, 23, bindingCode 2⟩ = .levelLow ∧ s.judgeMatch 2 40 ⟨5, 0, 85, bindingCode 2⟩ = .levelHigh ∧
      s.judgeMatch 2 40 ⟨6, 0, 50, bindingCode 2⟩ = .unheard ∧ s.judgeMatch 2 40 ⟨5, 0, 50, 0⟩ = .ignored ∧
      s.judgeMatch 2 40 ⟨5, 7, 50, bindingCode 2⟩ = .providerMismatch ∧
      (s.setEntry 0 (ent .active (some 5))).judgeMatch 2 40 ⟨5, 0, 50, bindingCode 2⟩ = .crossed ∧
      { s with settings := { s.settings with providers := 2 } }.judgeMatch 2 40 ⟨5, 7, 50, bindingCode 2⟩ = .providerOff) ∧
    ({ base.branch 2 with decided := some (5, .unheard) }.decided = some (5, .unheard)) ∧
    ({ base.branch 2 with queue := [job 40 .activate .range 0], decided := some (5, .succeeded) }.decided =
      some (5, .succeeded)) := by decide +kernel

/-- RangeReplyAdmitsOrBlocks, FirstPresenceCompletesAdmission: a round trip equal to the span, and one beyond it. -/
theorem test_witness_range :
    (let s := inWindow (withJob 40 (ent .ranging (some 5)) (job 40 .activate .range 1)) 2 .rangeListen;
      s.Listening 2 ∧ (s.branch 2).window = .rangeListen ∧ s.queue 2 = job 40 .activate .range 1 :: [] ∧
      (s.entry 40).serial = some 5 ∧ 3200 ≤ s.settings.span ∧ s.settings.span < 3201 ∧ (s.entry 40).state = .ranging ∧
      (s.entry 40).serial ≠ some 6) ∧
    (let s := withJob 40 (ent .ranging (some 5)) (job 40 .activate .admitting 1);
      s.JobInv ∧ s.jobOf 40 = some (job 40 .activate .admitting 1)) := by decide +kernel

/-- OpenCallTimerAndListening, ListeningEndsRetryOrEndJob, FrameMarksAndCounts. -/
theorem test_witness_timers :
    (let s := base.setBranch 3 { base.branch 3 with openTimer := some 20 };
      s.startup = .running ∧ (s.branch 3).openTimer = some 20 ∧ (base.branch 3).openTimer = none) ∧
    ((inWindow base 3 .openCall).branch 3).window = .openCall ∧ (base.branch 3).window ≠ .openCall ∧
    (let s := inWindow (withJob 40 (ent .binding none) (job 40 .activate .matching 3)) 2 .matchListen;
      (s.branch 2).window = .matchListen ∧ s.queue 2 = job 40 .activate .matching 3 :: [] ∧
      (s.branch 2).decided = none ∧ (s.entry 40).state = .binding) ∧
    (let s := inWindow (withJob 40 (ent .ranging (some 5)) (job 40 .activate .range 2)) 2 .rangeListen;
      (s.branch 2).window = .rangeListen ∧ s.queue 2 = job 40 .activate .range 2 :: [] ∧ (s.entry 40).state = .ranging ∧
      (s.entry 40).serial = some 5) ∧
    (let s := inWindow base 2 .matchListen; (s.branch 2).window = .matchListen ∧ s.queue 2 = []) ∧
    (let s := inWindow waitingPart 3 .matchListen;
      (s.branch 3).window = .matchListen ∧ ∀ j ∈ (s.queue 3).head?, j.stage ≠ .matching) ∧
    (let s := inWindow admittingPart 0 .matchListen;
      (s.branch 0).window = .matchListen ∧ ∀ j ∈ (s.queue 0).head?, j.stage ≠ .matching) ∧
    ({ base.branch 2 with rangeCounter := some ⟨4095, false⟩ }.rangeCounter = some ⟨4095, false⟩) ∧
    (let s := withJob 40 (ent .planned none) (job 40 .activate .waitTrace 0);
      let m := s.setBranch 2 { s.branch 2 with frameMarks := some 2 };
      m.frame = some ⟨80, 1⟩ ∧ (m.branch 2).frameMarks = some 2 ∧ m.queue 2 = job 40 .activate .waitTrace 0 :: [] ∧
      (m.entry 40).state = .planned ∧ (m.branch 0).frameMarks = none) := by decide

/-- PresenceTickCountsAndSilences, MinuteTickAgesAndLapses: counts below their limits, one tick from it, and at it. -/
theorem test_witness_ticks :
    ((seen .active 5 (record 59)).state = .active ∧ (seen .active 5 (record 59)).presence = some (record 59) ∧
      (record 59).running < (record 59).silenceLimit ∧ (record 59).running + 1 = (record 59).silenceLimit ∧
      (record 3).running + 1 < (record 3).silenceLimit ∧ (record 3).silenceLimit ≤ 255 ∧
      ((1 + 1) % 8) % (record 59).divisor = 0 ∧ ((0 + 1) % 8) % (record 59).divisor ≠ 0 ∧
      (record 60).silenceLimit ≤ (record 60).running) ∧
    (let s := base.setClaim 63 (some ⟨.field1, 1⟩); s.startup = .running ∧ s.claim 63 = some ⟨.field1, 1⟩ ∧
      (s.setClaim 63 (some ⟨.field1, 0⟩)).claim 63 = some ⟨.field1, 0⟩) ∧
    (let s := { listing base 0 [arrived 5 7, arrived 5 6] with ageLimitRead := some 7 };
      (∃ limit ∈ s.ageLimitRead, limit ≤ (arrived 5 7).age) ∧ ¬ ∃ limit ∈ s.ageLimitRead, limit ≤ (arrived 5 6).age) ∧
    ¬ (∃ limit ∈ base.ageLimitRead, limit ≤ (arrived 5 255).age) := by decide

/-- SupplyLevelsAndPin: levels at and beside each threshold, and the holds of a released pin. -/
theorem test_witness_supply :
    (base.startup = .running ∧ base.settings.monitorMode = .alarm ∧ base.settings.alarm.threshold = 114 ∧
      base.monitor = .ok ∧ base.NoHolds ∧ base.pinHold = false ∧ 255 ≤ 255) ∧
    ({ base with monitor := .low, mode := .hold }.monitor = .low) ∧
    (let s := after (exec .pinAssert base); s.startup = .held ∧ s.pinHold = true ∧ s.powerOnHold = false ∧
      s.supplyHold = false) ∧
    (let s := after (exec (.supplyLevel 89) (after (exec .pinAssert base)));
      s.startup = .held ∧ s.powerOnHold = true ∧ s.supply < 90 ∧ s.supplyHold = false) := by decide +kernel

/-- EntryIntoHoldSendsHeadsBack, ScanEndOpensThePart: heads in each stage, and a scan with its header read. -/
theorem test_witness_hold_and_scan :
    (withJob 40 (ent .planned none) (job 40 .activate .waitTrace 0)).QueueLaws ∧
    (let s := withJob 40 (ent .binding none) (job 40 .activate .matching 1); s.QueueLaws ∧ (s.entry 40).state = .binding ∧
      (s.queue 2).head? = some (job 40 .activate .matching 1)) ∧
    (let s := withJob 40 (ent .ranging (some 5)) (job 40 .activate .range 1); s.QueueLaws ∧
      (s.entry 40).state = .ranging ∧ (s.queue 2).head? = some (job 40 .activate .range 1)) ∧
    (let s := { State.reset with startup := .scanning true };
      s.startup = .scanning true ∧ s.settings.monitorMode = .alarm ∧ s.monitor = .ok ∧ (∀ b, s.branch b = .empty) ∧
      s.supply < s.settings.alarm.threshold ∧
      { s with supply := 114 }.settings.alarm.threshold ≤ { s with supply := 114 }.supply ∧
      (s.slot 0).found ≠ .filled ⟨1, 1, 5, 64, 100, 1⟩) := by decide +kernel

/-- Two good slots with one serial: the older one is beaten (R159). -/
theorem test_witness_scan_candidates :
    let one := (StoreRecord.mk 1 [] 0 false).written (SlotBody.filled ⟨1, 1, 5, 64, 100, 1⟩).bytes
    let two := (StoreRecord.mk 1 [] 0 false).written (SlotBody.filled ⟨1, 1, 5, 64, 100, 2⟩).bytes
    one.found = .filled ⟨1, 1, 5, 64, 100, 1⟩ ∧ two.found = .filled ⟨1, 1, 5, 64, 100, 2⟩ := by decide +kernel

/-- The premises of the invariants hold of a running part with entries and jobs. -/
theorem test_witness_invariants :
    let s := (withJob 40 (ent .ranging (some 5)) (job 40 .activate .range 1)).setEntry 16 (seen .active 6 (record 3))
    s.JobInv ∧ s.SerialInv ∧ s.PresenceInv ∧ s.GenInv ∧ s.ModeInv ∧ s.MarksInv ∧ s.RestartInv ∧ s.ClaimInv ∧
      step s = .next s.timePasses := by
  refine ⟨?_, ?_, ?_, ?_, ?_, ?_, ?_, ?_, rfl⟩ <;> decide +kernel

/-! ## Witnesses of refusals, readings and boundaries -/

/-- IdleStepLetsTimePass: a header never written, a good one and a torn one, and a scan after a supply reset. -/
theorem test_witness_header_reading :
    (State.reset.header.marks = 0 ∧ { State.reset with startup := .scanning true }.pending = []) ∧
    (let r := (StoreRecord.mk 1 [] 0 false).written (headerBytes .factory 5);
      r.marks ≠ 0 ∧ r.headerBody = some (.factory, 5)) ∧
    ((StoreRecord.mk 4 [] 0 true).marks ≠ 0 ∧ (StoreRecord.mk 4 [] 0 true).headerBody = none) ∧
    (let s := base.takeReset .supply; s.startup = .scanning false ∧ s.keepThresholds = true) := by
  refine ⟨?_, ?_, ?_, ?_⟩ <;> decide +kernel

/-- ReadOutLayout: an arrival, a queued job, an attached generator with an echo, and each kind of image. -/
theorem test_witness_read_out_rows :
    ((listing base 3 [arrived 5 0]).arrivalsOf 3).items[0]? = some (arrived 5 0) ∧
    (waitingPart.queue 3)[0]? = some (job 63 .activate .waiting 0) ∧
    (let y : Generator := ⟨some (63, .port .uplink), 0x800, 12, ⟨1, some (5, 3), false, false, false⟩⟩;
      ((base.setGen 7 y).gen 7).attached = some (63, .port .uplink) ∧ ((base.setGen 7 y).gen 7).echo.first = some (5, 3)) ∧
    (let s := base.setClaim 63 (some ⟨.field1, 5⟩);
      (allDrops.filter fun d => (s.claim d).isSome)[0]? = some 63 ∧ s.claim 0 = none) ∧
    ({ base with headerImage := .good, header := (StoreRecord.mk 1 [] 0 false).written (headerBytes .factory 5)
      }.header.headerBody = some (.factory, 5)) ∧
    (base.image 0 = .never ∧ (base.setImage 0 (.empty 9)).image 0 = .empty 9 ∧ base.headerImage ≠ .good) := by
  decide +kernel

/-- PortUnitGatesEveryRequest: the first number beyond each range and the last one, and a frame begun too early. -/
theorem test_witness_ranges :
    (∀ k ∈ [RequestKind.unplan, .releaseSlot, .setMode, .readStore, .clearLane], k.permits .uplink = true) ∧
    (∀ k ∈ [RequestKind.readEntry, .readArrivals, .readGenerator, .claim], k.permits .field1 = true) ∧
    (64 ≤ (64#8).toNat ∧ 4 ≤ (4#8).toNat ∧ 8 ≤ (8#8).toNat ∧ 2 ≤ (2#8).toNat ∧ 64 ≤ (254#8).toNat ∧
      (254#8).toNat ≤ 254) ∧ { req .uplink [] with inTime := false }.inTime = false := by decide

/-- LinkEventsCountAndRelease: frames begun in time and too early. -/
theorem test_witness_lost_frames :
    (LostFrame.mk .uplink true).inTime = true ∧ (LostFrame.mk .uplink false).inTime = false ∧
      (base.port .uplink).ignoring = false := by decide

/-- The refusals of PLAN, UNPLAN, WITHDRAW, UNBLOCK, SET_OFFSET, CLEAR_SILENCE, ACTIVATE, CANCEL and UNTRACE: SURVEY, a drop
claimed by the other side, a full queue, and parameters one beyond each range. -/
theorem test_witness_refusals :
    ({ base with mode := .survey, resume := .survey }.Takes (req .uplink [0])) ∧
    (let s := base.setClaim 0 (some ⟨.field2, 5⟩);
      s.Takes (req .uplink [0]) ∧ s.mode ≠ .survey ∧ s.claim 0 ≠ none ∧ s.mayAct .uplink 0 = false ∧
      s.mayAct .field1 0 = false) ∧
    (let s := (base.setEntry 45 (ent .planned none)).setQueue 2 ([32, 33, 34, 35, 36, 37].map fun d =>
        job d .activate .waiting 0);
      s.jobOf 45 = none ∧ 6 ≤ (s.queue (45 : Drop).branch).length) ∧
    ((req .uplink [64, 0, 1, 1]).params = [64, 0, 1, 1] ∧ 64 ≤ (64#8).toNat ∧ 16 ≤ (16#8).toNat ∧ 8 ≤ (8#8).toNat ∧
      128 ≤ (128#8).toNat ∧ 2 ≤ (2#8).toNat) := by decide

/-- EndedJobLeavesItsQueue: windows that jobs hold, a RANGE job whose MATCH_LISTEN runs on, two pending drops of a branch
with room, and the three cases of no refill. -/
theorem test_witness_departures :
    (let s := inWindow (withJob 40 (ent .binding none) (job 40 .activate .matching 1)) 2 .matchListen;
      (s.branch 2).window = .matchListen ∧ (s.branch 2).decided = none) ∧
    (let s := inWindow (withJob 40 (ent .ranging (some 5)) (job 40 .activate .range 1)) 2 .rangeListen;
      (s.branch 2).window = .rangeListen) ∧
    (let s := inWindow (withJob 40 (ent .ranging (some 5)) (job 40 .activate .range 0)) 2 .matchListen;
      (s.branch 2).window ≠ .rangeListen) ∧
    (let wait := { ent .bound (some 5) with rejoinPending := true };
      let s := (base.setEntry 34 wait).setEntry 33 wait;
      s.intakeOpen = true ∧ (s.queue 2).length < 6 ∧ (33 : Drop).branch = 2 ∧ (s.entry 33).rejoinPending = true ∧
      (s.entry 34).rejoinPending = true ∧
      (∀ e : Drop, e.branch = 2 → e < 33 → (s.entry e).rejoinPending = false)) ∧
    ({ base with mode := .survey }.intakeOpen = false ∧ ∀ d : Drop, d.branch = 2 → (base.entry d).rejoinPending = false) := by
  decide +kernel

/-- StoreWritesSpendMarksAtAcceptance: each refusal of COMMIT, RELEASE_SLOT and SAVE_SETTINGS. -/
theorem test_witness_store_refusals :
    ({ base with mode := .survey }.mode = .survey ∧ { base with mode := .hold }.mode = .hold ∧
      (base.setClaim 9 (some ⟨.field1, 5⟩)).claim 9 ≠ none ∧ (base.entry 9).state ≠ .active ∧
      4 ≤ ((base.setSlot 9 ⟨4, [], 0, false⟩).slot 9).marks ∧ 4 ≤ { base with header := ⟨4, [], 0, false⟩ }.header.marks) ∧
    ({ base with supply := 119 }.supply < base.settings.alarm.threshold + 6) ∧
    (base.Takes (req .uplink [1, 2, 3, 4]) ∧ (req .uplink [1, 2, 3, 4]).params.length = 4 ∧
      { base with controller := .writing (.slot 9 (.empty 1)) }.controller ≠ .idle) := by decide

/-- SetSettingAndRanges: codes that name no setting; SetModeAndFill: pending drops in SURVEY. -/
theorem test_witness_unknown_setting_and_pending :
    ((0 : Byte) = 0 ∧ 17 ≤ (17#8).toNat ∧ 17 ≤ (255#8).toNat) ∧
    (let s := { base with mode := .survey, resume := .survey }.setEntry 33 { ent .bound (some 5) with rejoinPending := true };
      s.Takes (req .uplink [1]) ∧ s.mode = .survey ∧ s.pendingDrops 2 = [33]) := by decide +kernel

/-- BurstChecksFindTheirFaults: symbol counts one beyond each limit, grace of none and of two, and each preamble. -/
theorem test_witness_burst_checks :
    (let bad := fun (k : BitVec 4) (n : Serial) (l : Byte) => n = 0 ∨ 16 < l.toNat ∨
        ∃ c ∈ burstKindOf k, l.toNat ≠ c.payloadLength;
      ¬ bad 1 5 3 ∧ ¬ bad 9 5 16 ∧ bad 9 5 17 ∧ bad 1 0 3 ∧ bad 3 5 1) ∧
    ((List.replicate 4 (0 : Byte)).length < (3#8).toNat + 2 ∧ (3#8).toNat + 4 < (List.replicate 8 (0 : Byte)).length ∧
      ([] : List Byte).length ≤ 2 ∧ ([1, 2] : List Byte).length ≤ 2 ∧ (3#8).toNat = (payloadOf 50 0).length) ∧
    (∀ errors ∈ [List.replicate 7 false, []], errors.length < 8) ∧
    (judgePreamble .strict (List.replicate 8 false) = .good ∧
      judgePreamble .strict [false, false, false, false, false, true, false, false] = .fixed ∧
      judgePreamble .strict [false, false, false, false, false, false, true, false] = .lost ∧
      judgePreamble .lenient [false, false, false, false, false, false, true, false] = .fixed) := by decide +kernel

/-- DiscardedBurstsOnlyMarkTheLane: a burst whole, its first and its last part, a part given again, a closing, a lane that is
CLOSED with a burst in progress, and a PRESENCE of a BOUND entry and of one still RANGING. -/
theorem test_witness_discards :
    (let x := { cleanBurst 3 0 0 [] with upTo := .header };
      base.OpenLane 3 ∧ x.inTime = true ∧ x.upTo ≠ .begun ∧ x.upTo ≠ .ended ∧
      (base.lane 3).rx.getD ⟨base.settings.tolerance, .begun, (base.branch 3).rangeCounter, true⟩ = ⟨.strict, .begun, none, true⟩ ∧
      BurstPart.begun.rank < x.upTo.rank ∧ (inspect .strict x).faults = [.headerBad]) ∧
    (let s := base.setLane 3 { base.lane 3 with rx := some ⟨.lenient, .header, none, true⟩ };
      let x := { marred with body := [1, 2] };
      s.OpenLane 3 ∧ x.upTo = .ended ∧ (s.lane 3).rx = some ⟨.lenient, .header, none, true⟩ ∧ BurstPart.header.rank < x.upTo.rank ∧
      (inspect .lenient x).intact = none ∧ (inspect .lenient x).faults = [.preambleFixed, .checkBad] ∧
      BurstPart.preamble.rank ≤ BurstPart.header.rank ∧
      ((s.setLane 3 { s.lane 3 with closed := true }).lane 3).closed = true) ∧
    (let x := { cleanBurst 3 0 5 [] with preambleErrors := List.replicate 8 true };
      (inspect .strict x).faults = [.preambleLost] ∧ (inspect .strict x).intact = none) ∧
    (let s := base.setEntry 16 (ent .bound (some 5)); (s.entry 16).state ≠ .active ∧ (s.entry 16).state ≠ .silent ∧
      (s.entry 16).state ≠ .ranging) ∧
    (rangingPart.jobOf 16 = some (job 16 .rejoin .range 1) ∧ (job 16 .rejoin .range 1).stage ≠ .admitting) ∧
    (((base.setLane 3 { base.lane 3 with closed := true }).lane 3).closed = true ∧ (base.lane 3).rx = none) ∧
    ((⟨.strict, .header, none, true⟩ : Reception).ignored.taken = false) ∧
    { cleanBurst 1 0 5 [] with inTime := false }.inTime = false := by decide +kernel

/-- HelloAddsOrRefreshesArrival, HelloOnOtherBranchMovesEntry: a serial on another branch's list, and full lists. -/
theorem test_witness_moves :
    (let s := listing base 2 [arrived 6 0, arrived 5 0, arrived 7 0];
      (∀ d, (s.entry d).serial ≠ some 5) ∧ (∀ a ∈ (s.arrivalsOf 3).items, a.serial ≠ 5) ∧
      arrived 5 0 ∈ (s.arrivalsOf 2).items ∧ (s.arrivalsOf 3).items.length < 8) ∧
    (let s := listing activePart 0 ([11, 12, 13, 14, 15, 16, 17, 18].map fun n => arrived n 0);
      8 ≤ (s.arrivalsOf 0).items.length ∧ s.JobInv ∧ s.SerialInv ∧ (s.entry 16).serial = some 5 ∧ (16 : Drop).branch ≠ 0) := by
  refine ⟨?_, ?_, ?_, ?_, ?_⟩ <;> decide +kernel

/-- RangeReplyAdmitsOrBlocks: a counter at the span read by a whole reply, one beyond it and one with its mark read at the
begin, a reply begun before the RANGE_CALL, and one that begins. -/
theorem test_witness_readings :
    (let s := counting (withJob 40 (ent .ranging (some 5)) (job 40 .activate .range 1)) 2 ⟨3200, false⟩;
      s.OpenLane 2 ∧ (s.branch 2).window = .rangeListen ∧ s.queue 2 = job 40 .activate .range 1 :: [] ∧
      (s.lane 2).rx = none ∧ (s.branch 2).rangeCounter = some ⟨3200, false⟩ ∧ 3200 ≤ s.settings.span) ∧
    (∀ c ∈ [RangeCounter.mk 3201 false, .mk 4095 true],
      let s := base.setLane 2 { base.lane 2 with rx := some ⟨.strict, .header, some c, true⟩ };
      s.OpenLane 2 ∧ (s.lane 2).rx = some ⟨.strict, .header, some c, true⟩ ∧ (c.overflow = true ∨ s.settings.span < c.count)) ∧
    (let s := base.setLane 2 { base.lane 2 with rx := some ⟨.strict, .begun, none, true⟩ };
      s.OpenLane 2 ∧ ∃ r, (s.lane 2).rx = some r ∧ r.counter = none) ∧
    ({ cleanBurst 3 0 5 [] with upTo := .begun }.inTime = true) := by
  refine ⟨?_, ?_, ⟨?_, ⟨.strict, .begun, none, true⟩, ?_⟩, ?_⟩ <;> decide +kernel

/-- SupplyLevelsAndPin in HELD and SCANNING: each hold, at and below the levels that release it. -/
theorem test_witness_held_levels :
    (let s := base.takeReset .powerOn; s.startup = .scanning false ∧ s.powerOnHold = false) ∧
    (let s := { base with supply := 89 }.takeReset .powerOn; s.startup = .held ∧ s.powerOnHold = true ∧ s.pinHold = false) ∧
    (let s := { base with supply := 113 }.takeReset .supply; s.startup = .held ∧ s.supplyHold = true ∧
      s.settings.alarm.threshold = 114 ∧ s.powerOnHold = false) ∧
    (after (exec .pinAssert base)).startup = .held := by decide +kernel

/-- EntryIntoHoldSendsHeadsBack, recovery: heads that wait for a rejoin and for an activation, and each resume mode. -/
theorem test_witness_recovery :
    (let s := { withJob 40 (ent .bound (some 5)) (job 40 .rejoin .waiting 0) with mode := .hold, monitor := .low };
      s.QueueLaws ∧ s.resume = .live ∧ (s.queue 2).head? = some (job 40 .rejoin .waiting 0) ∧ (s.entry 40).state = .bound) ∧
    (let s := { withJob 40 (ent .planned none) (job 40 .activate .waiting 0) with mode := .hold, monitor := .low };
      s.QueueLaws ∧ (s.queue 2).head? = some (job 40 .activate .waiting 0) ∧ (s.branch 2).frameMarks = none ∧
      (s.branch 2).window = .none) ∧
    (let s := { base with mode := .hold, monitor := .low, resume := .survey }; s.QueueLaws ∧ s.resume = .survey) ∧
    ((inWindow base 2 .rangeListen).QueueLaws ∧ ((inWindow base 2 .rangeListen).branch 2).window ≠ .none) := by
  refine ⟨?_, ?_, ?_, ?_⟩ <;> decide +kernel

/-- ScanEndOpensThePart: a header unread, a torn slot, an EMPTY one, and monitor mode RESET below the alarm level. -/
theorem test_witness_scans :
    (State.reset.startup = .scanning false ∧ step { State.reset with pending := [] } = .next State.reset.timePasses) ∧
    ((StoreRecord.mk 1 [] 0 true).found = .torn ∧
      ((StoreRecord.mk 1 [] 0 false).written (SlotBody.empty 9).bytes).found = .empty 9) ∧
    (let s := { State.reset with startup := .scanning true, settings := { Settings.factory with monitorMode := .reset } };
      s.supply < s.settings.alarm.threshold ∧ s.settings.monitorMode = .reset ∧ s.monitor = .ok) := by
  refine ⟨⟨rfl, rfl⟩, ?_, ?_⟩ <;> decide +kernel

/-- AcceptedBurstsNoteTheirProvider, UnknownKindIsReportedAndOffered: the first and the last part of a burst whose end is
still to come, and a burst whose repair an earlier part has reported. -/
theorem test_witness_burst_in_parts :
    (base.Listening 3 ∧ (cleanBurst 1 0 5 []).inTime = true ∧ BurstPart.begun ≠ .ended ∧ BurstPart.grace ≠ .ended ∧
      ((after (exec (.hello 3 { cleanBurst 1 0 5 [] with upTo := .begun }) base)).lane 3).rx =
        some ⟨.strict, .begun, none, true⟩) ∧
    (let s := base.setLane 1 { base.lane 1 with rx := some ⟨.lenient, .preamble, none, true⟩ };
      s.OpenLane 1 ∧ marred.upTo = .ended ∧ marred.kind? = some 11 ∧ burstKindOf 11 = none ∧
      (s.lane 1).rx.getD ⟨s.settings.tolerance, .begun, (s.branch 1).rangeCounter, true⟩ = ⟨.lenient, .preamble, none, true⟩ ∧
      (inspect .lenient marred).intact = some (⟨.noError, headerSymbols 11 0 1 0⟩, []) ∧
      foundBetween .preamble .ended (inspect .lenient marred).faults = [] ∧
      foundBetween .begun .ended (inspect .lenient marred).faults = [.preambleFixed]) := by
  refine ⟨?_, ?_⟩ <;> decide +kernel

/-- AcceptedBurstsNoteTheirProvider: each kind in its window, a PRESENCE of an ACTIVE, a SILENT and an admitting entry, a tag
enabled and one that is not. -/
theorem test_witness_accepted :
    ((inspect .strict (cleanBurst 1 3 5 (payloadOf 50 0))).intact =
        some (⟨.noError, headerSymbols 1 3 5 3⟩, payloadOf 50 0) ∧
      (Header.mk .noError (headerSymbols 1 3 5 3)).kind = 1 ∧ ((inWindow base 3 .openCall).branch 3).window = .openCall) ∧
    ((Header.mk .corrected (headerSymbols 2 7 5 3)).kind = 2 ∧
      ((inWindow base 3 .matchListen).branch 3).window = .matchListen) ∧
    ((Header.mk .noError (headerSymbols 3 0 5 0)).kind = 3 ∧
      ((inWindow base 3 .rangeListen).branch 3).window = .rangeListen) ∧
    ((Header.mk .noError (headerSymbols 4 0 5 3)).kind = 4 ∧ activePart.Listening 1 ∧ (activePart.entry 16).serial = some 5 ∧
      (∀ e : Drop, e ≠ 16 → (activePart.entry e).serial ≠ some 5) ∧ (activePart.entry 16).state = .active) ∧
    ((admittingPart.entry 0).state = .ranging ∧ (admittingPart.jobOf 0).map Job.stage = some .admitting) ∧
    ((3 : BitVec 3) ≠ 0 ∧ base.settings.providers &&& (1#8 <<< (3 : BitVec 3).toNat) ≠ 0 ∧
      { base.settings with providers := 2 }.providers &&& (1#8 <<< (3 : BitVec 3).toNat) = 0) := by
  refine ⟨?_, ?_, ?_, ?_, ?_, ?_⟩ <;> decide +kernel

end Sys2Proof.Tests
end

/-! PROOFS. The parameter of a roster request, its checks in the order of R18, and UNBLOCK (R22). -/

namespace Sys2Proof.Machine

/-! The drop a request names (R18, R185) -/

@[simp] theorem parseDrop_byteOf (d : Drop) : parseDrop [byteOf d.val] = some d := by
  have hval : (byteOf d.val).toNat = d.val := by
    rw [byteOf, BitVec.toNat_ofNat]
    omega
  simp [parseDrop, dropOf, hval]

theorem parseDrop_eq_none {n : Byte} (h : 64 ≤ n.toNat) : parseDrop [n] = none := by
  simp [parseDrop, dropOf, h]

/-! The checks of R18, one after the other -/

@[simp] theorem checked_cons_none (s : State) (cs : List (Option Status)) (out : State × Answer) :
    checked s (none :: cs) out = checked s cs out := rfl

@[simp] theorem checked_cons_some (s : State) (st : Status) (cs : List (Option Status)) (out : State × Answer) :
    checked s (some st :: cs) out = (s, ⟨st, []⟩) := rfl

@[simp] theorem checked_nil (s : State) (out : State × Answer) : checked s [] out = out := rfl

theorem surveyCheck_eq_some {s : State} (h : s.mode = .survey) : s.surveyCheck = some .mode := by
  simp [State.surveyCheck, failIf, h]

theorem surveyCheck_eq_none {s : State} (h : s.mode ≠ .survey) : s.surveyCheck = none := by
  simp [State.surveyCheck, failIf, h]

theorem claimCheck_uplink_eq_some {s : State} {d : Drop} (h : s.claim d ≠ none) :
    s.claimCheck .uplink d = some .claimed := by
  simp [State.claimCheck, Port.field, failIf, Option.isSome_iff_ne_none, h]

theorem claimCheck_uplink_eq_none {s : State} {d : Drop} (h : s.claim d = none) : s.claimCheck .uplink d = none := by
  simp [State.claimCheck, Port.field, failIf, h]

theorem stateCheck_eq_some {s : State} {d : Drop} {sts : List EntryState} (h : (s.entry d).state ∉ sts) :
    s.stateCheck d sts = some .wrongState := by
  simp [State.stateCheck, failIf, h]

theorem stateCheck_eq_none {s : State} {d : Drop} {sts : List EntryState} (h : (s.entry d).state ∈ sts) :
    s.stateCheck d sts = none := by
  simp [State.stateCheck, failIf, h]

/-! Entry into PLANNED (Table 1-4) -/

theorem unbindTo_eq_unbound (e : Entry) (st : EntryState) : e.unbindTo st = e.unbound st := by
  cases hserial : e.serial <;> simp [Entry.unbindTo, Entry.unbound, Entry.dropSerial, hserial]

theorem enter_planned {e : Entry} (h : e.state ≠ .planned) : e.enter .planned = e.unbound .planned := by
  simp [Entry.enter, h, unbindTo_eq_unbound]

/-! UNBLOCK -/

section
variable {s : State} {r : Request}

/-- An UNBLOCK that the Uplink's port takes is answered by its checks and effect (R142, R177). -/
theorem exec_unblock_of_takes (htakes : s.Takes r) (hport : r.port = .uplink) :
    exec (.unblock r) s = .next ((unblockBody r s).1.respond r 0x11 (unblockBody r s).2) := by
  have hrole : RequestKind.unblock.permits r.port = true := by rw [hport]; rfl
  exact congrArg Host.Outcome.next (takeRequest_run (isRunning_of_takes htakes) (takesFrame_of_takes htakes) hrole)

/-- UNBLOCK of a drop in 0..63 from the Uplink: MODE, CLAIMED and WRONG_STATE in that order, then the entry becomes
PLANNED (R18, R22). -/
theorem unblockBody_drop {d : Drop} (hport : r.port = .uplink) (hparams : r.params = [byteOf d.val]) :
    unblockBody r s = checked s [s.surveyCheck, s.claimCheck .uplink d, s.stateCheck d [.blocked]]
      (s.setEntry d ((s.entry d).enter .planned), .ok) := by
  rw [unblockBody, hparams, parseDrop_byteOf, withParams_some, hport]

theorem exec_unblock_blocked {d : Drop} (htakes : s.Takes r) (hport : r.port = .uplink)
    (hparams : r.params = [byteOf d.val]) (hmode : s.mode ≠ .survey) (hclaim : s.claim d = none)
    (hstate : (s.entry d).state = .blocked) :
    exec (.unblock r) s = .next ((s.setEntry d ((s.entry d).unbound .planned)).respond r 0x11 .ok) := by
  have hplanned : (s.entry d).state ≠ .planned := by simp [hstate]
  rw [exec_unblock_of_takes htakes hport, unblockBody_drop hport hparams, surveyCheck_eq_none hmode,
    claimCheck_uplink_eq_none hclaim, stateCheck_eq_none (by simp [hstate]), enter_planned hplanned]
  simp

theorem exec_unblock_wrongState {d : Drop} (htakes : s.Takes r) (hport : r.port = .uplink)
    (hparams : r.params = [byteOf d.val]) (hmode : s.mode ≠ .survey) (hclaim : s.claim d = none)
    (hstate : (s.entry d).state ≠ .blocked) :
    exec (.unblock r) s = .next (s.respond r 0x11 ⟨.wrongState, []⟩) := by
  rw [exec_unblock_of_takes htakes hport, unblockBody_drop hport hparams, surveyCheck_eq_none hmode,
    claimCheck_uplink_eq_none hclaim, stateCheck_eq_some (by simp [hstate])]
  simp

theorem exec_unblock_claimed {d : Drop} (htakes : s.Takes r) (hport : r.port = .uplink)
    (hparams : r.params = [byteOf d.val]) (hmode : s.mode ≠ .survey) (hclaim : s.claim d ≠ none) :
    exec (.unblock r) s = .next (s.respond r 0x11 ⟨.claimed, []⟩) := by
  rw [exec_unblock_of_takes htakes hport, unblockBody_drop hport hparams, surveyCheck_eq_none hmode,
    claimCheck_uplink_eq_some hclaim]
  simp

theorem exec_unblock_survey {d : Drop} (htakes : s.Takes r) (hport : r.port = .uplink)
    (hparams : r.params = [byteOf d.val]) (hmode : s.mode = .survey) :
    exec (.unblock r) s = .next (s.respond r 0x11 ⟨.mode, []⟩) := by
  rw [exec_unblock_of_takes htakes hport, unblockBody_drop hport hparams, surveyCheck_eq_some hmode]
  simp

theorem exec_unblock_badParameter {n : Byte} (htakes : s.Takes r) (hport : r.port = .uplink) (hparams : r.params = [n])
    (hrange : 64 ≤ n.toNat) : exec (.unblock r) s = .next (s.respond r 0x11 ⟨.badParameter, []⟩) := by
  rw [exec_unblock_of_takes htakes hport, unblockBody, hparams, parseDrop_eq_none hrange, withParams_none]
  rfl

end

/-- Settles O13: UNBLOCK's checks by R18, one lemma for each answer, and the entry of R22 read off `Entry.unbound`. -/
theorem unblockMakesPlanned : Obligations.UnblockMakesPlanned := by
  refine ⟨fun s r d htakes hport hparams hmode hclaim => ⟨fun hstate => ?blocked, fun hstate => ?other⟩,
    fun s r d htakes hport hparams => ⟨fun hmode => ?survey, fun hmode hclaim => ?claimed⟩,
    fun s r n htakes hport hparams hrange => ?outOfRange⟩
  case blocked =>
    refine ⟨_, exec_unblock_blocked htakes hport hparams hmode hclaim hstate, ?_⟩
    have hserial : (s.entry d).serial = none → ((s.entry d).unbound .planned).lastSerial = (s.entry d).lastSerial := by
      intro h
      simp [Entry.unbound, h]
    simp only [State.respond_entry, State.setEntry_entry_same, true_and]
    exact ⟨rfl, rfl, rfl, rfl, rfl, rfl, rfl, hserial, rfl⟩
  case other => exact exec_unblock_wrongState htakes hport hparams hmode hclaim hstate
  case survey => exact exec_unblock_survey htakes hport hparams hmode
  case claimed => exact exec_unblock_claimed htakes hport hparams hmode hclaim
  case outOfRange => exact exec_unblock_badParameter htakes hport hparams hrange

end Sys2Proof.Machine

/-! PROOFS. A clean burst of a known kind as the receiver takes it (R77 to R86), what leaves and what joins the arrivals
lists (R96, R100), and the HELLO of a serial that no entry holds (R99, R100). -/

namespace Sys2Proof.Machine

/-! A burst without an error (12.4): what the receiver reads in it -/

/-- The two symbols of a payload check, put together again (R84, R184). -/
theorem byteOf_append_byteOf (c : BitVec 16) : byteOf (c.toNat / 256 ^ 1) ++ byteOf (c.toNat / 256 ^ 0) = c := by
  apply BitVec.eq_of_toNat_eq
  simp only [byteOf, BitVec.toNat_append, BitVec.toNat_ofNat, Nat.shiftLeft_eq]
  rw [Nat.mul_comm, ← Nat.two_pow_add_eq_or_of_lt (Nat.mod_lt _ (by decide))]
  have hbound : c.toNat < 65536 := c.isLt
  omega

/-- A payload followed by its own check passes checks 3 and 4 (R83, R84). -/
theorem inspectBody_checked {h : Header} {payload : List Byte} (hlen : h.length.toNat = payload.length) :
    inspectBody h (payload ++ beBytes 2 (crc16 payload).toNat) = ⟨[], some (h, payload)⟩ := by
  simpa [inspectBody, hlen, beBytes] using (byteOf_append_byteOf (crc16 payload)).symm

/-- The payload length that a header can say is the one the burst has (R82). -/
theorem byteOf_payloadLength (k : BurstKind) : (byteOf k.payloadLength).toNat = k.payloadLength := by
  cases k <;> rfl

/-- A clean burst of a known kind, with a serial and a payload of its kind's length, passes checks 1 to 4
(R80 to R84). -/
theorem inspect_cleanBurst {tol : Tolerance} {kind : BitVec 4} {tag : BitVec 3} {n : Serial} {payload : List Byte}
    {k : BurstKind} (hkind : burstKindOf kind = some k) (hn : n ≠ 0) (hlen : payload.length = k.payloadLength) :
    inspect tol (cleanBurst kind tag n payload) =
      ⟨[], some (⟨.noError, headerSymbols kind tag n (byteOf payload.length)⟩, payload)⟩ := by
  have hlength : (byteOf payload.length).toNat = payload.length := by rw [hlen, byteOf_payloadLength]
  have hshort : payload.length ≤ 16 := by rw [hlen]; cases k <;> decide
  have hgood : headerBad ⟨.noError, headerSymbols kind tag n (byteOf payload.length)⟩ = false := by
    simpa [headerBad, hkind, hlength, hshort, ← hlen] using hn
  rw [inspect_good rfl]
  simp [inspectHeader, cleanBurst, hgood, inspectBody_checked, hlength]

/-- A listening lane takes a clean burst of a known kind on with what it carries (R85). -/
theorem receive_cleanBurst {s : State} {b : Branch} {kind : BitVec 4} {tag : BitVec 3} {n : Serial}
    {payload : List Byte} {k : BurstKind} (hlistening : s.Listening b) (hkind : burstKindOf kind = some k) (hn : n ≠ 0)
    (hlen : payload.length = k.payloadLength) :
    s.receive b (cleanBurst kind tag n payload) =
      s.takeKnown b k ⟨n, tag, payloadLevel payload, payloadObservation payload⟩ (s.branch b).rangeCounter := by
  rw [receive_taken hlistening rfl rfl, inspect_cleanBurst hkind hn hlen]
  simp [State.reportFound, afterPreamble_of_not_lost, State.takeIntact, hkind]

@[simp] theorem payloadLevel_payloadOf {raw : Nat} (obs : Steps) (h : raw ≤ 127) :
    payloadLevel (payloadOf raw obs) = raw := by
  simp [payloadLevel, payloadOf, byteOf]
  omega

@[simp] theorem payloadObservation_payloadOf (raw : Nat) (obs : Steps) :
    payloadObservation (payloadOf raw obs) = obs := by
  have hbound : obs.toNat < 4096 := obs.isLt
  apply BitVec.eq_of_toNat_eq
  simp [payloadObservation, payloadOf, byteOf, beBytes, word16]
  omega

/-! Acceptance and its echo (R88, R118) -/

/-- An observation that no attached generator shows is no echo (R118). -/
theorem takeEcho_of_no_echo {s : State} {n : Serial} {b : Branch} {obs : Steps} {bound : Option Drop}
    (h : ∀ g, (s.gen g).attached.isSome = true → (s.gen g).observed ≠ obs) : s.takeEcho n b obs bound = s := by
  have hnone : (allGens.find? fun g => (s.gen g).attached.isSome && (s.gen g).observed = obs) = none :=
    List.find?_eq_none.mpr fun g _ => by simpa using h g
  simp only [State.takeEcho, hnone]

/-- A hello without a tag, in an open call and without an echo, goes to the Arrivals List alone (R86, R88, R89). -/
theorem takeKnown_hello {s : State} {b : Branch} {r : Report} {c : Option RangeCounter}
    (hwindow : (s.branch b).window = .openCall) (htag : r.tag = 0)
    (hecho : ∀ g, (s.gen g).attached.isSome = true → (s.gen g).observed ≠ r.observation) :
    s.takeKnown b .hello r c = s.takeHello b r := by
  simp [State.takeKnown, BurstKind.invited, hwindow, State.noteProvider, htag, State.handOn, takeEcho_of_no_echo hecho]

/-! The arrivals lists (R96, R97) -/

/-- The provider-off flag as R97 words it. -/
theorem tagOff_eq (st : Settings) (t : BitVec 3) :
    st.tagOff t = decide (t ≠ 0 ∧ st.providers &&& (1#8 <<< t.toNat) = 0) := by
  change st.tagOff t = decide (t ≠ 0 ∧ st.providers &&& tagBit t = 0)
  simp [Settings.tagOff, tagIn]

section
variable {s : State} {b : Branch} {r : Report} {n : Serial}

theorem holderOf_eq_none (h : ∀ d, (s.entry d).serial ≠ some n) : s.holderOf n = none :=
  List.find?_eq_none.mpr fun d _ => by simpa using h d

theorem listedOn_eq_false (h : ∀ a ∈ (s.arrivalsOf b).items, a.serial ≠ n) : s.listedOn b n = false :=
  List.any_eq_false.mpr fun a ha => by simpa using h a ha

theorem listedOn_eq_true {a : Arrival} (ha : a ∈ (s.arrivalsOf b).items) (hserial : a.serial = n) :
    s.listedOn b n = true :=
  List.any_eq_true.mpr ⟨a, ha, by simpa using hserial⟩

@[simp] theorem unlist_arrivalsOf (c : Branch) :
    (s.unlist n).arrivalsOf c = { s.arrivalsOf c with
      items := (s.arrivalsOf c).items.filter fun a => a.serial ≠ n } := by
  simp [State.unlist, State.arrivalsOf]

/-- A list that does not hold the serial stands when the serial leaves the lists. -/
theorem unlist_arrivalsOf_of_unlisted (h : ∀ a ∈ (s.arrivalsOf b).items, a.serial ≠ n) :
    (s.unlist n).arrivalsOf b = s.arrivalsOf b := by
  rw [unlist_arrivalsOf, List.filter_eq_self.mpr fun a ha => by simpa using h a ha]

/-- A serial that no list holds leaves none. -/
theorem unlist_of_unlisted (h : ∀ c, ∀ a ∈ (s.arrivalsOf c).items, a.serial ≠ n) : s.unlist n = s := by
  have harrivals : (s.unlist n).arrivals = s.arrivals :=
    Vector.ext fun i hi => unlist_arrivalsOf_of_unlisted (h ⟨i, hi⟩)
  calc s.unlist n = { s with arrivals := (s.unlist n).arrivals } := rfl
    _ = s := by rw [harrivals]

/-! A hello from a serial that no entry holds (R99, R100) -/

theorem takeHello_listed (hunbound : ∀ d, (s.entry d).serial ≠ some r.serial) (hlisted : s.listedOn b r.serial = true) :
    s.takeHello b r = s.refreshArrival b r := by
  simp [State.takeHello, holderOf_eq_none hunbound, hlisted]

theorem takeHello_unlisted (hunbound : ∀ d, (s.entry d).serial ≠ some r.serial)
    (hunlisted : ∀ a ∈ (s.arrivalsOf b).items, a.serial ≠ r.serial) : s.takeHello b r = s.addArrival b r := by
  simp [State.takeHello, holderOf_eq_none hunbound, listedOn_eq_false hunlisted]

/-- A list with room takes the serial at its tail, after the serial has left every other list (R100). -/
theorem addArrival_room (hunlisted : ∀ a ∈ (s.arrivalsOf b).items, a.serial ≠ r.serial)
    (hroom : (s.arrivalsOf b).items.length < 8) :
    s.addArrival b r = ((s.unlist r.serial).setArrivals b { s.arrivalsOf b with
      items := (s.arrivalsOf b).items ++ [Arrival.fresh s.settings r] }).raise .arrival := by
  simp only [State.addArrival, unlist_arrivalsOf_of_unlisted hunlisted, Config.arrivalsLimit, if_pos hroom]

/-- A full list misses the serial, after the serial has left every other list (R100). -/
theorem addArrival_full (hunlisted : ∀ a ∈ (s.arrivalsOf b).items, a.serial ≠ r.serial)
    (hfull : 8 ≤ (s.arrivalsOf b).items.length) :
    s.addArrival b r = ((s.unlist r.serial).setArrivals b { s.arrivalsOf b with
      missed := satInc (s.arrivalsOf b).missed }).raise .arrivalsFull := by
  simp only [State.addArrival, unlist_arrivalsOf_of_unlisted hunlisted, Config.arrivalsLimit,
    if_neg (Nat.not_lt.mpr hfull)]

/-- The refresh replaces the one arrival of the serial, and no other (R99). -/
theorem refreshArrival_at {pre post : List Arrival} {a : Arrival} (hitems : (s.arrivalsOf b).items = pre ++ a :: post)
    (hserial : a.serial = r.serial) (hothers : ∀ x ∈ pre ++ post, x.serial ≠ r.serial) :
    s.refreshArrival b r = s.setArrivals b { s.arrivalsOf b with items := pre ++ a.refresh s.settings r :: post } := by
  have hstand : ∀ l ⊆ pre ++ post, (l.map fun x => if x.serial = r.serial then x.refresh s.settings r else x) = l :=
    fun l hl => (List.map_congr_left fun x hx => if_neg (hothers x (hl hx))).trans (List.map_id' l)
  simp only [State.refreshArrival, hitems, List.map_append, List.map_cons, if_pos hserial,
    hstand pre (List.subset_append_left _ _), hstand post (List.subset_append_right _ _)]

/-- A clean hello without a tag or an echo, in an open call, from a serial that no entry and no list holds
(R86 to R100). -/
theorem exec_hello_unknown {raw : Nat} {obs : Steps} (hlistening : s.Listening b) (hn : n ≠ 0) (hraw : raw ≤ 127)
    (hwindow : (s.branch b).window = .openCall) (hunbound : ∀ d, (s.entry d).serial ≠ some n)
    (hunlisted : ∀ a ∈ (s.arrivalsOf b).items, a.serial ≠ n)
    (hecho : ∀ g, (s.gen g).attached.isSome = true → (s.gen g).observed ≠ obs) :
    exec (.hello b (cleanBurst 1 0 n (payloadOf raw obs))) s = .next (s.addArrival b ⟨n, 0, raw, obs⟩) := by
  have hreceive := receive_cleanBurst (kind := 1) (tag := 0) (payload := payloadOf raw obs) hlistening rfl hn rfl
  rw [payloadLevel_payloadOf obs hraw, payloadObservation_payloadOf, takeKnown_hello hwindow rfl hecho,
    takeHello_unlisted hunbound hunlisted] at hreceive
  exact congrArg Host.Outcome.next hreceive

end

/-- Settles O38: the HELLO runs through `exec_hello_unknown`; each outcome is then one lemma about the list, read in the
words of R97 and R99. -/
theorem helloAddsOrRefreshesArrival : Obligations.HelloAddsOrRefreshesArrival := by
  refine ⟨fun s b n raw obs hlistening hn hraw hwindow hunbound hunlisted hecho => ?unknown,
    fun s b r pre post a hunbound hitems hserial hothers => ?listed, fun s b r hunbound hunlisted => ?elsewhere⟩
  case unknown =>
    rw [exec_hello_unknown hlistening hn hraw hwindow hunbound (hunlisted b) hecho]
    refine ⟨fun hroom => ?_, fun hfull => ?_⟩
    · rw [addArrival_room (hunlisted b) hroom, unlist_of_unlisted hunlisted]
      rfl
    · rw [addArrival_full (hunlisted b) hfull, unlist_of_unlisted hunlisted]
      rfl
  case listed =>
    have hlisted : s.listedOn b r.serial = true := listedOn_eq_true (by simp [hitems]) hserial
    rw [takeHello_listed hunbound hlisted, refreshArrival_at hitems hserial hothers, ← tagOff_eq]
    rfl
  case elsewhere =>
    rw [takeHello_unlisted hunbound hunlisted, ← tagOff_eq]
    rcases Nat.lt_or_ge (s.arrivalsOf b).items.length 8 with hroom | hfull
    · rw [addArrival_room hunlisted hroom]
      refine ⟨fun c hc => ?_, fun _ => ⟨rfl, ?_⟩, fun hfull => absurd hroom (Nat.not_lt.mpr hfull)⟩
      · simp [State.setArrivals_arrivalsOf_ne _ b c _ hc.symm]
      · simp [Arrival.fresh, observed?]
    · rw [addArrival_full hunlisted hfull]
      refine ⟨fun c hc => ?_, fun hroom => absurd hroom (Nat.not_lt.mpr hfull), fun _ => ⟨rfl, ?_⟩⟩
      · simp [State.setArrivals_arrivalsOf_ne _ b c _ hc.symm]
      · simp [satInc, Config.countTop]

end Sys2Proof.Machine

/-! PROOFS. What the detachment and the offers of trace generators can touch (R115 to R117), the end of a claim, and
RELEASE (R137). -/

namespace Sys2Proof.Machine

/-! Answers that no owning block gives (R142, R170) -/

/-- During the scan a request of a kind that waits for the part to run is answered STARTING, from any port (R170). -/
theorem takeRequest_scanning {k : RequestKind} {r : Request} {act : State → State × Answer} {s : State} {h : Bool}
    (hscan : s.startup = .scanning h) (htake : s.takesFrame r.port r.inTime = true) (hkind : k.duringScan = false) :
    s.takeRequest k r act = s.respond r k.code (.just .starting) := by
  simp [State.takeRequest, State.isRunning, hscan, htake, hkind]

/-- In RUNNING a port that the role table does not name is refused before the parameters are read (R142, R143). -/
theorem takeRequest_notPermitted {k : RequestKind} {r : Request} {act : State → State × Answer} {s : State}
    (htakes : s.Takes r) (hrole : k.permits r.port = false) :
    s.takeRequest k r act = s.respond r k.code (.just .notPermitted) := by
  simp [State.takeRequest, takesFrame_of_takes htakes, isRunning_of_takes htakes, hrole]

/-! Detachment and offers (R115 to R117) -/

/-- The second state differs from the first at most in the generators, the frame marks of the branches and the
last-served branch: every queue stands, and no generator has become a port's. -/
structure TraceWork (s t : State) : Prop where
  frame : t = { s with generators := t.generators, branches := t.branches, lastServed := t.lastServed }
  queue : ∀ b, t.queue b = s.queue b
  traced : ∀ g d p, (t.gen g).attached = some (d, .port p) → (s.gen g).attached = some (d, .port p)

theorem TraceWork.refl (s : State) : TraceWork s s := ⟨rfl, fun _ => rfl, fun _ _ _ h => h⟩

theorem TraceWork.trans {s t u : State} (hst : TraceWork s t) (htu : TraceWork t u) : TraceWork s u where
  frame := by
    rw [htu.frame]
    rw [hst.frame]
  queue b := (htu.queue b).trans (hst.queue b)
  traced g d p h := hst.traced g d p (htu.traced g d p h)

theorem detachWhere_gen (s : State) (p : Generator → Bool) (g : Gen) :
    (s.detachWhere p).gen g =
      if (s.gen g).attached.isSome && p (s.gen g) then (s.gen g).detached else s.gen g := by
  simp [State.detachWhere, State.gen]

theorem traceWork_detachWhere (s : State) (p : Generator → Bool) : TraceWork s (s.detachWhere p) where
  frame := rfl
  queue _ := rfl
  traced g d q h := by
    rw [detachWhere_gen] at h
    split at h
    · cases h
    · exact h

/-- A generator that was given away belongs to a binding, not to a port (R116). -/
theorem traceWork_giveGenerator (s : State) (b : Branch) (g : Gen) : TraceWork s (s.giveGenerator b g) := by
  unfold State.giveGenerator
  split
  next j js hqueue =>
    refine ⟨rfl, fun c => ?_, fun h d p hport => ?_⟩
    · change ((s.attach g j.drop (.binding b) (bindingCode b) 12).setBranch b
        { s.branch b with frameMarks := some 0 }).queue c = s.queue c
      rw [State.setBranch_queue]
      split
      next hbc => rw [← hbc]; rfl
      next => rfl
    · change ((s.setGen g ⟨some (j.drop, .binding b), bindingCode b, 12, .cleared⟩).gen h).attached = _ at hport
      rw [State.setGen_gen] at hport
      split at hport
      · cases hport
      · exact hport
  next => exact .refl s

theorem traceWork_offer (s : State) (g : Gen) : TraceWork s (s.offer g) := by
  unfold State.offer
  split
  · exact traceWork_giveGenerator s _ g
  · exact .refl s

theorem traceWork_offerAll (s : State) (gs : List Gen) : TraceWork s (s.offerAll gs) := by
  induction gs generalizing s with
  | nil => exact .refl s
  | cons g gs ih => exact (traceWork_offer s g).trans (ih _)

theorem traceWork_detachAndOffer (s : State) (p : Generator → Bool) : TraceWork s (s.detachAndOffer p) :=
  (traceWork_detachWhere s p).trans (traceWork_offerAll _ _)

theorem tracedBy_iff {f : FieldPort} {d : Drop} {g : Generator} :
    Generator.tracedBy f d g = true ↔ g.attached = some (d, .port f.port) := by
  cases hattached : g.attached with
  | none => simp [Generator.tracedBy, Generator.on, hattached]
  | some a => simp [Generator.tracedBy, Generator.on, Generator.ownedBy, hattached, Prod.ext_iff]

/-- When a port's generators on a drop have left, the offers give none of them back to the port (R114, R117). -/
theorem detachAndOffer_tracedBy (s : State) (f : FieldPort) (d : Drop) (g : Gen) :
    ((s.detachAndOffer (Generator.tracedBy f d)).gen g).attached ≠ some (d, .port f.port) := by
  intro hstill
  have hkept := (traceWork_offerAll _ _).traced g d f.port hstill
  have hbefore := (traceWork_detachWhere s _).traced g d f.port hkept
  rw [detachWhere_gen, hbefore, tracedBy_iff.mpr hbefore] at hkept
  cases hkept

/-! Claims (R133) -/

theorem holds_iff {s : State} {f : FieldPort} {d : Drop} :
    s.holds f d = true ↔ ∃ c, s.claim d = some c ∧ c.holder = f := by
  simp [State.holds]

/-- The claim count counts the drops that the port holds. -/
theorem claimCount_eq (s : State) (f : FieldPort) : s.claimCount f = (allDrops.filter (s.holds f)).length := rfl

/-- When the claim of one drop ends and the others stand, its holder's claim count falls by one. -/
theorem claimCount_of_claim_ended {s t : State} {f : FieldPort} {d : Drop} (hheld : s.holds f d = true)
    (hended : t.claim d = none) (hothers : ∀ e, e ≠ d → t.claim e = s.claim e) :
    t.claimCount f + 1 = s.claimCount f := by
  have hmem : d ∈ allDrops.filter (s.holds f) := List.mem_filter.mpr ⟨List.mem_finRange d, hheld⟩
  have hnodup : (allDrops.filter (s.holds f)).Nodup := (List.nodup_finRange 64).filter _
  have herase : allDrops.filter (t.holds f) = (allDrops.filter (s.holds f)).erase d := by
    rw [hnodup.erase_eq_filter, List.filter_filter]
    refine List.filter_congr fun e _ => ?_
    by_cases hed : e = d
    · simp [State.holds, hed, hended]
    · simp [State.holds, hed, hothers e hed]
  rw [claimCount_eq, claimCount_eq, herase, List.length_erase_add_one hmem]

/-! RELEASE (R137) -/

section
variable {s : State} {r : Request} {d : Drop} {f : FieldPort}

@[simp] theorem field_port (f : FieldPort) : f.port.field = some f := by cases f <;> rfl

theorem permits_release (f : FieldPort) : RequestKind.release.permits f.port = true := by cases f <;> rfl

/-- What the Claim Table does with a RELEASE that the role table permits. -/
def releaseBody (r : Request) (s : State) : State × Answer :=
  withParams s (parseDrop r.params) fun d => withField s r.port fun f =>
    if s.holds f d then (s.releaseClaim f d, .ok) else (s, s.notHeld f d)

theorem exec_release (r : Request) (s : State) :
    exec (.release r) s = .next (s.takeRequest .release r (releaseBody r)) := rfl

theorem exec_release_of_takes (htakes : s.Takes r) (hport : r.port = f.port) :
    exec (.release r) s = .next ((releaseBody r s).1.respond r 0x1A (releaseBody r s).2) := by
  have hrole : RequestKind.release.permits r.port = true := by rw [hport, permits_release]
  rw [exec_release, takeRequest_run (isRunning_of_takes htakes) (takesFrame_of_takes htakes) hrole]
  rfl

theorem releaseBody_drop (hport : r.port = f.port) (hparams : r.params = [byteOf d.val]) :
    releaseBody r s = if s.holds f d then (s.releaseClaim f d, .ok) else (s, s.notHeld f d) := by
  rw [releaseBody, hparams, parseDrop_byteOf, withParams_some, hport, withField, field_port]

theorem exec_release_held (htakes : s.Takes r) (hport : r.port = f.port) (hparams : r.params = [byteOf d.val])
    (hheld : s.holds f d = true) : exec (.release r) s = .next ((s.releaseClaim f d).respond r 0x1A .ok) := by
  rw [exec_release_of_takes htakes hport, releaseBody_drop hport hparams, if_pos hheld]

theorem exec_release_notHeld (htakes : s.Takes r) (hport : r.port = f.port) (hparams : r.params = [byteOf d.val])
    (hfree : ¬ s.holds f d = true) : exec (.release r) s = .next (s.respond r 0x1A (s.notHeld f d)) := by
  rw [exec_release_of_takes htakes hport, releaseBody_drop hport hparams, if_neg hfree]

theorem exec_release_badParameter {n : Byte} (htakes : s.Takes r) (hport : r.port = f.port) (hparams : r.params = [n])
    (hrange : 64 ≤ n.toNat) : exec (.release r) s = .next (s.respond r 0x1A ⟨.badParameter, []⟩) := by
  rw [exec_release_of_takes htakes hport, releaseBody, hparams, parseDrop_eq_none hrange, withParams_none]
  rfl

theorem exec_release_scanning {h : Bool} (hscan : s.startup = .scanning h)
    (htake : s.takesFrame r.port r.inTime = true) :
    exec (.release r) s = .next (s.respond r 0x1A ⟨.starting, []⟩) := by
  rw [exec_release, takeRequest_scanning hscan htake rfl]
  rfl

theorem exec_release_uplink (htakes : s.Takes r) (hport : r.port = .uplink) :
    exec (.release r) s = .next (s.respond r 0x1A ⟨.notPermitted, []⟩) := by
  have hrole : RequestKind.release.permits r.port = false := by rw [hport]; rfl
  rw [exec_release, takeRequest_notPermitted htakes hrole]
  rfl

/-- The end of a claim by RELEASE touches the claims and what `TraceWork` names, and nothing else: no port record, so no
event, and no lapse mark (R137). -/
theorem releaseClaim_frame (s : State) (f : FieldPort) (d : Drop) :
    s.releaseClaim f d = { s with
      claims := (s.releaseClaim f d).claims, generators := (s.releaseClaim f d).generators
      branches := (s.releaseClaim f d).branches, lastServed := (s.releaseClaim f d).lastServed } := by
  unfold State.releaseClaim
  rw [(traceWork_detachAndOffer s (Generator.tracedBy f d)).frame]
  rfl

theorem releaseClaim_lapses (s : State) (f : FieldPort) (d : Drop) : (s.releaseClaim f d).lapses = s.lapses := by
  rw [releaseClaim_frame]

theorem releaseClaim_port (s : State) (f : FieldPort) (d : Drop) (p : Port) :
    (s.releaseClaim f d).port p = s.port p := by
  rw [releaseClaim_frame]
  rfl

theorem releaseClaim_queue (s : State) (f : FieldPort) (d : Drop) (b : Branch) :
    (s.releaseClaim f d).queue b = s.queue b :=
  (traceWork_detachAndOffer s _).queue b

theorem releaseClaim_gen_attached (s : State) (f : FieldPort) (d : Drop) (g : Gen) :
    ((s.releaseClaim f d).gen g).attached ≠ some (d, .port f.port) :=
  detachAndOffer_tracedBy s f d g

theorem releaseClaim_claim_same (s : State) (f : FieldPort) (d : Drop) : (s.releaseClaim f d).claim d = none :=
  State.setClaim_claim_same ..

theorem releaseClaim_claim_ne {e : Drop} (s : State) (f : FieldPort) (hne : e ≠ d) :
    (s.releaseClaim f d).claim e = s.claim e := by
  rw [State.releaseClaim, State.setClaim_claim_ne _ _ _ _ hne.symm, (traceWork_detachAndOffer s _).frame]
  rfl

end

/-- Settles O24: each refusal is one lemma about `exec (.release r)`; the holder's RELEASE is `releaseClaim`, whose
lemmas say what ends and, by `TraceWork`, what stands. -/
theorem releaseEndsClaimWithoutEvent : Obligations.ReleaseEndsClaimWithoutEvent := by
  refine ⟨fun s r h hscan hready hheard htime => ?starting, fun s r htakes => ⟨fun hport => ?uplink,
      fun n hport hlow hhigh hparams => ?outOfRange⟩,
    fun s r d f htakes hport hparams => ⟨fun hheld => ?held, fun hothers => ?notHeld⟩⟩
  case starting =>
    have htake : s.takesFrame r.port r.inTime = true := by simp [State.takesFrame, hscan, hready, hheard, htime]
    exact exec_release_scanning hscan htake
  case uplink => exact exec_release_uplink htakes hport
  case outOfRange =>
    obtain ⟨f, hfield⟩ : ∃ f : FieldPort, r.port = f.port := by
      cases hp : r.port with
      | uplink => exact absurd hp hport
      | field1 => exact ⟨.field1, rfl⟩
      | field2 => exact ⟨.field2, rfl⟩
    have hrange : 64 ≤ (byteOf n).toNat := by
      rw [byteOf, BitVec.toNat_ofNat]
      omega
    exact exec_release_badParameter htakes hfield hparams hrange
  case held =>
    have hholds : s.holds f d = true := holds_iff.mpr hheld
    have hended : ((s.releaseClaim f d).respond r 0x1A .ok).claim d = none := releaseClaim_claim_same s f d
    have hstand : ∀ e, e ≠ d → ((s.releaseClaim f d).respond r 0x1A .ok).claim e = s.claim e :=
      fun e hne => releaseClaim_claim_ne s f hne
    refine ⟨_, exec_release_held htakes hport hparams hholds, rfl, hended, hstand,
      claimCount_of_claim_ended hholds hended hstand, releaseClaim_lapses s f d,
      releaseClaim_gen_attached s f d, ?answer, fun p hp => ?otherPort, releaseClaim_queue s f d, ?frame⟩
    case answer =>
      rw [State.respond_port_same, releaseClaim_port]
      rfl
    case otherPort => rw [State.respond_port_ne _ _ _ _ _ hp.symm, releaseClaim_port]
    case frame =>
      rw [releaseClaim_frame]
      rfl
  case notHeld =>
    have hfree : ¬ s.holds f d = true := by
      rw [holds_iff]
      rintro ⟨c, hclaim, hholder⟩
      exact hothers c hclaim hholder
    exact exec_release_notHeld htakes hport hparams hfree

end Sys2Proof.Machine

/-! PROOFS. The two reads that clear what they read, each in the asking port's own copy: READ_EVENTS (R182) and
READ_RESET_CAUSE (R168). -/

namespace Sys2Proof.Machine

/-! Frames a port takes and answers during the scan (R170, R175) -/

/-- A port that is READY and does not ignore bytes takes a frame begun in time, in SCANNING as in RUNNING. -/
theorem takesFrame_of_ready {s : State} {p : Port} {inTime : Bool} (hup : s.startup ≠ .held)
    (hready : (s.port p).answer = .ready) (hheard : (s.port p).ignoring = false) (htime : inTime = true) :
    s.takesFrame p inTime = true := by
  simp [State.takesFrame, hup, hready, hheard, htime]

/-- A request of a kind that does not wait for the scan's end reaches its owning block in every start-up state (R170). -/
theorem takeRequest_duringScan {k : RequestKind} {r : Request} {act : State → State × Answer} {s : State}
    (hkind : k.duringScan = true) (htake : s.takesFrame r.port r.inTime = true) (hrole : k.permits r.port = true) :
    s.takeRequest k r act = (act s).1.respond r k.code (act s).2 := by
  simp [State.takeRequest, hkind, htake, hrole]

/-! A port's record replaced and then answered on -/

theorem setPort_setPort (s : State) (p : Port) (v w : PortRecord) : (s.setPort p v).setPort p w = s.setPort p w := by
  simp [State.setPort]

/-- The answer of a request whose effect replaces the asking port's own record. -/
theorem setPort_respond (s : State) (r : Request) (v : PortRecord) (k : Byte) (a : Answer) :
    (s.setPort r.port v).respond r k a =
      s.setPort r.port { v with answer := .answering (some ⟨r.tag, k, a.status, a.data⟩) } := by
  rw [State.respond, State.setPort_port_same, setPort_setPort]

/-! Event copies and alert lines (R181, R183) -/

section
variable {p : PortRecord}

theorem alertLine_of_no_events (hclear : p.events = 0) : p.alertLine = false := by
  simp [PortRecord.alertLine, hclear]

/-- The first event raised after a copy was cleared is the only one it holds. -/
theorem raise_events_of_no_events (e : Event) (hclear : p.events = 0) : (p.raise e).events = e.bit := by
  simp [PortRecord.raise, hclear]

theorem raise_alertLine_of_no_events (e : Event) (hclear : p.events = 0) :
    (p.raise e).alertLine = decide (e.bit &&& p.mask ≠ 0) := by
  rw [PortRecord.alertLine, raise_events_of_no_events e hclear]
  rfl

end

/-! READ_EVENTS -/

section
variable {s : State} {r : Request}

/-- What the Port Unit does with a READ_EVENTS that it does not answer STARTING. -/
def readEventsBody (r : Request) (s : State) : State × Answer :=
  withParams s (parseNone r.params) fun _ =>
    (s.clearEvents r.port, ⟨.ok, beBytes 2 (s.port r.port).events.toNat⟩)

theorem exec_readEvents (r : Request) (s : State) :
    exec (.readEvents r) s = .next (s.takeRequest .readEvents r (readEventsBody r)) := rfl

/-- The asking port's record after READ_EVENTS: no event, and the answer with the flags as they were read (R182). -/
def eventsRead (r : Request) (p : PortRecord) : PortRecord :=
  { p with events := 0, answer := .answering (some ⟨r.tag, 0x0C, .ok, beBytes 2 p.events.toNat⟩) }

theorem eventsRead_events (r : Request) (p : PortRecord) : (eventsRead r p).events = 0 := rfl

theorem exec_readEvents_scanning {h : Bool} (hscan : s.startup = .scanning h)
    (htake : s.takesFrame r.port r.inTime = true) :
    exec (.readEvents r) s = .next (s.respond r 0x0C ⟨.starting, []⟩) := by
  rw [exec_readEvents, takeRequest_scanning hscan htake rfl]
  rfl

theorem exec_readEvents_of_takes (htakes : s.Takes r) (hparams : r.params = []) :
    exec (.readEvents r) s = .next (s.setPort r.port (eventsRead r (s.port r.port))) := by
  rw [exec_readEvents, takeRequest_run (isRunning_of_takes htakes) (takesFrame_of_takes htakes) rfl,
    readEventsBody, hparams, parseNone, withParams_some, State.clearEvents, setPort_respond]
  rfl

end

/-! READ_RESET_CAUSE -/

section
variable {s : State} {r : Request}

/-- What the Port Unit does with a READ_RESET_CAUSE that a port takes. -/
def readResetCauseBody (r : Request) (s : State) : State × Answer :=
  withParams s (parseNone r.params) fun _ =>
    (s.clearCauses r.port, ⟨.ok, [(s.port r.port).causes.byte]⟩)

theorem exec_readResetCause (r : Request) (s : State) :
    exec (.readResetCause r) s = .next (s.takeRequest .readResetCause r (readResetCauseBody r)) := rfl

theorem exec_readResetCause_of_takesFrame (htake : s.takesFrame r.port r.inTime = true) (hparams : r.params = []) :
    exec (.readResetCause r) s = .next (s.setPort r.port { s.port r.port with
      causes := ⟨false, false, false, false⟩
      answer := .answering (some ⟨r.tag, 0x0D, .ok, [(s.port r.port).causes.byte]⟩) }) := by
  rw [exec_readResetCause, takeRequest_duringScan rfl htake rfl,
    readResetCauseBody, hparams, parseNone, withParams_some, State.clearCauses, setPort_respond]
  rfl

end

/-- Settles O6: each answer is one lemma about `exec`, and a taken request is the asking port's record replaced; what
follows for the alert line and for a later event is read off the cleared copy. -/
theorem readAndClearOwnCopy : Obligations.ReadAndClearOwnCopy := by
  refine ⟨fun s r hparams => ⟨fun h hscan hready hheard htime => ?starting, fun htakes => ?read⟩,
    fun s r hparams hup hready hheard htime => ?causes⟩
  case starting =>
    have hup : s.startup ≠ .held := by simp [hscan]
    exact exec_readEvents_scanning hscan (takesFrame_of_ready hup hready hheard htime)
  case read =>
    refine ⟨_, exec_readEvents_of_takes htakes hparams, rfl, State.setPort_port_same .., fun p hp => ?otherPort,
      ?line, fun e => ⟨?laterCopy, ?laterLine⟩⟩
    case otherPort => exact State.setPort_port_ne _ _ _ _ hp.symm
    case line => rw [State.alertLine, State.setPort_port_same, alertLine_of_no_events (eventsRead_events ..)]
    case laterCopy =>
      rw [State.raise_port, State.setPort_port_same, raise_events_of_no_events e (eventsRead_events ..)]
    case laterLine =>
      rw [State.alertLine, State.raise_port, State.setPort_port_same,
        raise_alertLine_of_no_events e (eventsRead_events ..)]
      rfl
  case causes => exact exec_readResetCause_of_takesFrame (takesFrame_of_ready hup hready hheard htime) hparams

end Sys2Proof.Machine

/-! PROOFS. Every request in one form: the Port Unit's gate and what the owning block does with it (R142, R143, R170,
R175 to R177). -/

namespace Sys2Proof.Machine

/-- What the owning block of a request does with it, once the Port Unit has let it pass (R177). -/
def requestBody (k : RequestKind) (r : Request) : State → State × Answer :=
  match k with
  | .readIdentity => readOut (parseNone r.params) fun t _ => t.identityBytes r.port
  | .readEntry => readOut (parseDrop r.params) State.entryBytes
  | .readArrivals => readOut (parseBranch r.params) State.arrivalsBytes
  | .readQueue => readOut (parseBranch r.params) State.queueBytes
  | .readGenerator => readOut (parseGen r.params) State.genBytes
  | .readLane => readOut (parseBranch r.params) State.laneBytes
  | .readUnknownKinds => readOut (parseNone r.params) fun t _ => t.unknownBytes
  | .readSettings => readOut (parseNone r.params) fun t _ => t.settingsBytes
  | .readSupply => readOut (parseNone r.params) fun t _ => t.supplyBytes
  | .readStore => readOut (parseStoreName r.params) State.storeBytes
  | .readClaims => readOut (parseNone r.params) fun t _ => t.claimsBytes
  | .readEvents => readEventsBody r
  | .readResetCause => readResetCauseBody r
  | .plan => planBody r
  | .unplan => unplanBody r
  | .withdraw => withdrawBody r
  | .unblock => unblockBody r
  | .setOffset => setOffsetBody r
  | .clearSilence => clearSilenceBody r
  | .activate => activateBody r
  | .cancel => cancelBody r
  | .trace => traceBody r
  | .untrace => untraceBody r
  | .claim => fun t =>
    withParams t (parseDrop r.params) fun d => withField t r.port fun f => t.claimDrop f d
  | .renew => fun t =>
    withParams t (parseDrop r.params) fun d => withField t r.port fun f =>
      if t.holds f d then (t.grantClaim f d, t.leaseAnswer .ok) else (t, t.notHeld f d)
  | .release => releaseBody r
  | .revoke => fun t =>
    withParams t (parseDrop r.params) fun d =>
      match t.claim d with
      | some c => (t.revokeClaim c.holder d, .ok)
      | none => (t, .just .notFound)
  | .commit => commitBody r
  | .releaseSlot => releaseSlotBody r
  | .saveSettings => saveSettingsBody r
  | .setSetting => setSettingBody r
  | .setMode => setModeBody r
  | .setAlertMask => fun t =>
    withParams t (parseEvents r.params) fun m => (t.setMask r.port m, ⟨.ok, beBytes 2 m.toNat⟩)
  | .clearLane => fun t =>
    withParams t (parseBranch r.params) fun b => (t.setLane b (t.lane b).clear, .ok)
  | .clearUnknownKinds => fun t => withParams t (parseNone r.params) fun _ => (t.clearUnknown, .ok)
  | .forgetArrival => fun t =>
    withParams t (parseSerial r.params) fun n =>
      checked t [failIf (!t.listed n) .notFound] (t.unlist n, .ok)
  | .restart => fun t => withParams t (parseNone r.params) fun _ => (t, .ok)

/-! The gate -/

section
variable {c : Instr} {k : RequestKind} {r : Request} {s : State}

/-- Every request goes through the one gate, but for a SET_SETTING that a supply reset follows and a RESTART that passes
its checks (R166, R172, R177). -/
theorem exec_request (hreq : request? c = some (k, r)) (hset : k = .setSetting → s.resetFollows r = false)
    (hrestart : k = .restart → s.restartTaken r = false) :
    exec c s = .next (s.takeRequest k r (requestBody k r)) := by
  cases c with
  | setSetting q =>
    cases hreq
    simp [exec, execSetSetting, hset rfl, requestBody]
  | restart q =>
    cases hreq
    simp [exec, execRestart, hrestart rfl, requestBody]
  | _ => cases hreq <;> rfl

/-- A request that neither the settings' reset nor RESTART concerns. -/
theorem exec_request_plain (hreq : request? c = some (k, r)) (hrestart : k ≠ .restart) (hset : k ≠ .setSetting) :
    exec c s = .next (s.takeRequest k r (requestBody k r)) :=
  exec_request hreq (fun h => absurd h hset) (fun h => absurd h hrestart)

theorem not_takesFrame (h : s.startup = .held ∨ (s.port r.port).answer ≠ .ready ∨ (s.port r.port).ignoring = true ∨
    r.inTime = false) : s.takesFrame r.port r.inTime = false := by
  rcases h with h | h | h | h <;> simp [State.takesFrame, h]

theorem exec_request_lost (hreq : request? c = some (k, r)) (htake : s.takesFrame r.port r.inTime = false) :
    exec c s = .next s := by
  rw [exec_request hreq (fun _ => by simp [State.resetFollows, htake]) (fun _ => by simp [State.restartTaken, htake]),
    takeRequest_lost htake]

theorem exec_request_scanning {h : Bool} (hreq : request? c = some (k, r)) (hscan : s.startup = .scanning h)
    (htake : s.takesFrame r.port r.inTime = true) (hkind : k.duringScan = false) :
    exec c s = .next (s.respond r k.code ⟨.starting, []⟩) := by
  have hidle : s.isRunning = false := by simp [State.isRunning, hscan]
  rw [exec_request hreq (fun _ => by simp [State.resetFollows, hidle]) (fun _ => by simp [State.restartTaken, hidle]),
    takeRequest_scanning hscan htake hkind]
  rfl

theorem exec_request_notPermitted (hreq : request? c = some (k, r)) (htakes : s.Takes r)
    (hrole : k.permits r.port = false) : exec c s = .next (s.respond r k.code ⟨.notPermitted, []⟩) := by
  rw [exec_request hreq (fun h => by subst h; simp [State.resetFollows, hrole])
      (fun h => by subst h; simp [State.restartTaken, hrole]), takeRequest_notPermitted htakes hrole]
  rfl

/-- A request that its owning block answers at once with the state unchanged. -/
theorem exec_request_refused {st : Status} (hreq : request? c = some (k, r)) (htakes : s.Takes r)
    (hrole : k.permits r.port = true) (hbody : requestBody k r s = (s, .just st)) (hst : st ≠ .ok) :
    exec c s = .next (s.respond r k.code ⟨st, []⟩) := by
  have hset : k = .setSetting → s.resetFollows r = false := by
    rintro rfl
    have hasked : s.settingsAsked r = none := by
      cases h : s.settingsAsked r with
      | none => rfl
      | some v =>
        rw [requestBody, setSettingBody, h, withParams_some] at hbody
        exact absurd (congrArg (·.2.status) hbody).symm hst
    simp [State.resetFollows, hasked]
  have hrestart : k = .restart → s.restartTaken r = false := by
    rintro rfl
    have hparams : parseNone r.params = none := by
      cases h : parseNone r.params with
      | none => rfl
      | some v =>
        simp only [requestBody, h, withParams_some] at hbody
        exact absurd (congrArg (·.2.status) hbody).symm hst
    simp [State.restartTaken, hparams]
  rw [exec_request hreq hset hrestart, takeRequest_run (isRunning_of_takes htakes) (takesFrame_of_takes htakes) hrole,
    hbody]
  rfl

/-- A taken and permitted request has the effect and the answer of its owning block (R177). -/
theorem exec_request_taken (hreq : request? c = some (k, r)) (hset : k ≠ .setSetting) (hrestart : k ≠ .restart)
    (htakes : s.Takes r) (hrole : k.permits r.port = true) :
    exec c s = .next ((requestBody k r s).1.respond r k.code (requestBody k r s).2) := by
  rw [exec_request_plain hreq hrestart hset,
    takeRequest_run (isRunning_of_takes htakes) (takesFrame_of_takes htakes) hrole]

end

/-! Refusals (R177) -/

/-- The answer says that the request was carried out. -/
def Answer.done (a : Answer) : Prop := a.status ∈ [Status.ok, .queued, .accepted, .alreadyHeld]

/-- The request was carried out, or it was refused with the state unchanged and no data. -/
def Settled (s : State) (out : State × Answer) : Prop := out.2.done ∨ ∃ st, out = (s, .just st)

theorem settled_refused (s : State) (st : Status) : Settled s (s, .just st) := .inr ⟨st, rfl⟩

theorem settled_ok (s t : State) (data : List Byte) : Settled s (t, ⟨.ok, data⟩) := .inl (by simp [Answer.done])

theorem settled_checked {s : State} {cs : List (Option Status)} {out : State × Answer} (h : Settled s out) :
    Settled s (checked s cs out) := by
  rcases checked_cases s cs out with hpass | ⟨st, hfail⟩
  · rwa [hpass]
  · exact .inr ⟨st, hfail⟩

theorem settled_withParams {α : Type} {s : State} {v : Option α} {act : α → State × Answer}
    (h : ∀ a, Settled s (act a)) : Settled s (withParams s v act) := by
  cases v with
  | none => exact settled_refused s _
  | some a => exact h a

theorem settled_withField {s : State} {p : Port} {act : FieldPort → State × Answer} (h : ∀ f, Settled s (act f)) :
    Settled s (withField s p act) := by
  unfold withField
  split
  · exact h _
  · exact settled_refused s _

theorem settled_readOut {α : Type} (v : Option α) (data : State → α → List Byte) (s : State) :
    Settled s (readOut v data s) :=
  settled_withParams fun _ => settled_ok _ _ _

theorem settled_claimDrop (s : State) (f : FieldPort) (d : Drop) : Settled s (s.claimDrop f d) := by
  unfold State.claimDrop
  split
  · split
    · exact .inl (by simp [Answer.done, State.leaseAnswer])
    · exact settled_refused s _
  · split
    · exact settled_refused s _
    · exact settled_ok _ _ _

/-- A request is carried out, or refused without any change (R177). -/
theorem settled_requestBody (k : RequestKind) (r : Request) (s : State) : Settled s (requestBody k r s) := by
  cases k with
  | readIdentity | readEntry | readArrivals | readQueue | readGenerator | readLane | readUnknownKinds | readSettings
  | readSupply | readStore | readClaims => exact settled_readOut _ _ s
  | readEvents | readResetCause | setSetting | setAlertMask | clearLane | clearUnknownKinds | restart =>
    exact settled_withParams fun _ => settled_ok _ _ _
  | plan | unplan | withdraw | unblock | setOffset | clearSilence | forgetArrival =>
    exact settled_withParams fun _ => settled_checked (settled_ok _ _ _)
  | activate | commit | releaseSlot | saveSettings =>
    exact settled_withParams fun _ => settled_checked (.inl (by simp [Answer.done, Answer.just, Answer.accepted]))
  | cancel =>
    refine settled_withParams fun d => ?_
    cases s.jobOf d with
    | none => exact settled_checked (settled_refused s _)
    | some j => exact settled_checked (settled_ok _ _ _)
  | trace =>
    refine settled_withParams fun v => ?_
    cases s.freeGen with
    | none => exact settled_checked (settled_refused s _)
    | some g => exact settled_checked (settled_ok _ _ _)
  | untrace =>
    refine settled_withParams fun d => ?_
    cases s.genOn d with
    | none => exact settled_checked (settled_refused s _)
    | some g => exact settled_checked (settled_ok _ _ _)
  | claim => exact settled_withParams fun d => settled_withField fun f => settled_claimDrop s f d
  | renew | release =>
    refine settled_withParams fun d => settled_withField fun f => ?_
    split
    · exact settled_ok _ _ _
    · exact settled_refused s _
  | revoke =>
    refine settled_withParams fun d => ?_
    cases s.claim d with
    | none => exact settled_refused s _
    | some c => exact settled_ok _ _ _
  | setMode =>
    refine settled_withParams fun m => ?_
    split
    · exact settled_ok _ _ _
    · exact settled_checked (settled_ok _ _ _)

/-- Settles O8: the answer is `respond`'s, and `settled_requestBody` says that every other answer than the four of an
accepted request comes with the state unchanged. -/
theorem takenRequestsAreAnsweredAndRefusalsChangeNothing :
    Obligations.TakenRequestsAreAnsweredAndRefusalsChangeNothing := by
  intro c k r s hreq htakes hrestart hset
  cases hrole : k.permits r.port with
  | false =>
    exact ⟨_, _, exec_request_notPermitted hreq htakes hrole, by rw [State.respond_port_same], rfl, rfl, fun _ => rfl⟩
  | true =>
    refine ⟨_, _, exec_request_taken hreq hset hrestart htakes hrole, by rw [State.respond_port_same], rfl, rfl,
      fun hstatus => ?_⟩
    rcases settled_requestBody k r s with hdone | ⟨st, hrefused⟩
    · exact absurd hdone hstatus
    · rw [hrefused]
      rfl

/-! Parameters outside their length or range (R185) -/

section
variable {l : List Byte} {n : Byte}

theorem parseNone_eq_none (h : l.length ∉ [0]) : parseNone l = none := by
  cases l with
  | nil => simp at h
  | cons => rfl

theorem parseDrop_of_length (h : l.length ∉ [1]) : parseDrop l = none := by
  match l, h with
  | [], _ | _ :: _ :: _, _ => rfl
  | [_], h => simp at h

theorem parseBranch_of_length (h : l.length ∉ [1]) : parseBranch l = none := by
  match l, h with
  | [], _ | _ :: _ :: _, _ => rfl
  | [_], h => simp at h

theorem parseGen_of_length (h : l.length ∉ [1]) : parseGen l = none := by
  match l, h with
  | [], _ | _ :: _ :: _, _ => rfl
  | [_], h => simp at h

theorem parseStoreName_of_length (h : l.length ∉ [1]) : parseStoreName l = none := by
  match l, h with
  | [], _ | _ :: _ :: _, _ => rfl
  | [_], h => simp at h

theorem parseMode_of_length (h : l.length ∉ [1]) : parseMode l = none := by
  match l, h with
  | [], _ | _ :: _ :: _, _ => rfl
  | [_], h => simp at h

theorem parseEvents_of_length (h : l.length ∉ [2]) : parseEvents l = none := by
  match l, h with
  | [], _ | [_], _ | _ :: _ :: _ :: _, _ => rfl
  | [_, _], h => simp at h

theorem parseOffset_of_length (h : l.length ∉ [3]) : parseOffset l = none := by
  match l, h with
  | [], _ | [_], _ | [_, _], _ | _ :: _ :: _ :: _ :: _, _ => rfl
  | [_, _, _], h => simp at h

theorem parseSetting_of_length (h : l.length ∉ [3]) : parseSetting l = none := by
  match l, h with
  | [], _ | [_], _ | [_, _], _ | _ :: _ :: _ :: _ :: _, _ => rfl
  | [_, _, _], h => simp at h

theorem parsePlan_of_length (h : l.length ∉ [4]) : parsePlan l = none := by
  match l, h with
  | [], _ | [_], _ | [_, _], _ | [_, _, _], _ | _ :: _ :: _ :: _ :: _ :: _, _ => rfl
  | [_, _, _, _], h => simp at h

theorem parseTrace_of_length (h : l.length ∉ [4]) : parseTrace l = none := by
  match l, h with
  | [], _ | [_], _ | [_, _], _ | [_, _, _], _ | _ :: _ :: _ :: _ :: _ :: _, _ => rfl
  | [_, _, _, _], h => simp at h

theorem parseEstate_of_length (h : l.length ∉ [0, 4]) : parseEstate l = none := by
  match l, h with
  | [_], _ | [_, _], _ | [_, _, _], _ | _ :: _ :: _ :: _ :: _ :: _, _ => rfl
  | [], h | [_, _, _, _], h => simp at h

theorem parseSerial_of_length (h : l.length ∉ [6]) : parseSerial l = none := by
  match l, h with
  | [], _ | [_], _ | [_, _], _ | [_, _, _], _ | [_, _, _, _], _ | [_, _, _, _, _], _
  | _ :: _ :: _ :: _ :: _ :: _ :: _ :: _, _ => rfl
  | [_, _, _, _, _, _], h => simp at h

theorem parseBranch_eq_none (h : 4 ≤ n.toNat) : parseBranch [n] = none := by simp [parseBranch, branchOf, h]

theorem parseGen_eq_none (h : 8 ≤ n.toNat) : parseGen [n] = none := by simp [parseGen, genOf, h]

theorem parseMode_eq_none (h : 2 ≤ n.toNat) : parseMode [n] = none := by
  have h0 : n ≠ 0 := by rintro rfl; simp at h
  have h1 : n ≠ 1 := by rintro rfl; simp at h
  simp only [parseMode, if_neg h0, if_neg h1]

theorem parseStoreName_eq_none (hlow : 64 ≤ n.toNat) (hhigh : n.toNat ≤ 254) : parseStoreName [n] = none := by
  have hheader : n ≠ 0xFF := by rintro rfl; simp at hhigh
  have hdrop : dropOf n = none := by simp [dropOf, hlow]
  simp only [parseStoreName, hdrop, if_neg hheader]

end

/-- The parameter lengths of R185, one list for each kind. -/
def RequestKind.lengths : RequestKind → List Nat
  | .readIdentity | .readUnknownKinds | .readSettings | .readSupply | .readClaims | .readEvents | .readResetCause
  | .clearUnknownKinds | .restart => [0]
  | .plan | .trace => [4]
  | .setOffset | .setSetting => [3]
  | .setAlertMask => [2]
  | .forgetArrival => [6]
  | .saveSettings => [0, 4]
  | _ => [1]

theorem requestBody_badLength {k : RequestKind} {r : Request} (s : State) (h : r.params.length ∉ k.lengths) :
    requestBody k r s = (s, .just .badParameter) := by
  have refused {α : Type} {v : Option α} {act : α → State × Answer} (hv : v = none) :
      withParams s v act = (s, .just .badParameter) := by rw [hv, withParams_none]
  cases k with
  | readIdentity | readUnknownKinds | readSettings | readSupply | readClaims | readEvents | readResetCause
  | clearUnknownKinds | restart => exact refused (parseNone_eq_none h)
  | plan => exact refused (parsePlan_of_length h)
  | trace => exact refused (parseTrace_of_length h)
  | setOffset => exact refused (parseOffset_of_length h)
  | setSetting =>
    have hasked : s.settingsAsked r = none := by simp [State.settingsAsked, parseSetting_of_length h]
    exact refused hasked
  | setAlertMask => exact refused (parseEvents_of_length h)
  | forgetArrival => exact refused (parseSerial_of_length h)
  | saveSettings => exact refused (parseEstate_of_length h)
  | readArrivals | readQueue | readLane | clearLane => exact refused (parseBranch_of_length h)
  | readGenerator => exact refused (parseGen_of_length h)
  | readStore => exact refused (parseStoreName_of_length h)
  | setMode => exact refused (parseMode_of_length h)
  | _ => exact refused (parseDrop_of_length h)

theorem requestBody_badDrop {k : RequestKind} {r : Request} {n : Byte} (s : State) (hparams : r.params = [n])
    (hn : 64 ≤ n.toNat) (hk : k ∈ [RequestKind.readEntry, .unplan, .withdraw, .unblock, .clearSilence, .activate,
      .cancel, .untrace, .claim, .renew, .release, .revoke, .commit, .releaseSlot]) :
    requestBody k r s = (s, .just .badParameter) := by
  have hdrop : parseDrop r.params = none := by rw [hparams, parseDrop_eq_none hn]
  have refused {act : Drop → State × Answer} :
      withParams s (parseDrop r.params) act = (s, .just .badParameter) := by rw [hdrop, withParams_none]
  simp only [List.mem_cons, List.not_mem_nil, or_false] at hk
  rcases hk with rfl | rfl | rfl | rfl | rfl | rfl | rfl | rfl | rfl | rfl | rfl | rfl | rfl | rfl <;> exact refused

theorem requestBody_badBranch {k : RequestKind} {r : Request} {n : Byte} (s : State) (hparams : r.params = [n])
    (hn : 4 ≤ n.toNat) (hk : k ∈ [RequestKind.readArrivals, .readQueue, .readLane, .clearLane]) :
    requestBody k r s = (s, .just .badParameter) := by
  have hbranch : parseBranch r.params = none := by rw [hparams, parseBranch_eq_none hn]
  have refused {act : Branch → State × Answer} :
      withParams s (parseBranch r.params) act = (s, .just .badParameter) := by rw [hbranch, withParams_none]
  simp only [List.mem_cons, List.not_mem_nil, or_false] at hk
  rcases hk with rfl | rfl | rfl | rfl <;> exact refused

/-- Settles O7: each gate of the Port Unit is one lemma about every request, and the refusals of R185 are those of
`requestBody`. -/
theorem portUnitGatesEveryRequest : Obligations.PortUnitGatesEveryRequest := by
  refine ⟨fun c k r s h hreq hscan hready hheard htime hid hcause => ?scanning, fun c k r s hreq hlost => ?lost,
    fun c k r s hreq htakes hrole => ?role, fun c k r s hreq htakes hrole hlen => ?length,
    fun c k r s n hreq htakes hrole hparams hrange => ?range⟩
  case scanning =>
    have hup : s.startup ≠ .held := by simp [hscan]
    have hkind : k.duringScan = false := by
      cases k with
      | readIdentity => exact absurd rfl hid
      | readResetCause => exact absurd rfl hcause
      | _ => rfl
    exact exec_request_scanning hreq hscan (takesFrame_of_ready hup hready hheard htime) hkind
  case lost => exact exec_request_lost hreq (not_takesFrame hlost)
  case role =>
    refine exec_request_notPermitted hreq htakes ?_
    simp only [List.mem_cons, List.not_mem_nil, or_false] at hrole
    rcases hrole with ⟨hport, hk⟩ | ⟨hport, hk⟩
    · rcases hk with rfl | rfl | rfl | rfl | rfl | rfl | rfl | rfl | rfl | rfl | rfl | rfl | rfl | rfl | rfl | rfl <;>
        simp [RequestKind.permits, RequestKind.role, hport]
    · rcases hk with rfl | rfl | rfl <;> simp [RequestKind.permits, RequestKind.role, hport]
  case length =>
    refine exec_request_refused hreq htakes hrole (requestBody_badLength s ?_) (by decide)
    cases k <;> exact hlen
  case range =>
    refine exec_request_refused hreq htakes hrole ?_ (by decide)
    rcases hrange with ⟨hk, hn⟩ | ⟨hk, hn⟩ | ⟨rfl, hn⟩ | ⟨rfl, hn⟩ | ⟨rfl, hlow, hhigh⟩
    · exact requestBody_badDrop s hparams hn hk
    · exact requestBody_badBranch s hparams hn hk
    · rw [requestBody, hparams, readOut, parseGen_eq_none hn, withParams_none]
    · rw [requestBody, setModeBody, hparams, parseMode_eq_none hn, withParams_none]
    · rw [requestBody, hparams, readOut, parseStoreName_eq_none hlow hhigh, withParams_none]

end Sys2Proof.Machine

/-! PROOFS. What each operation leaves unchanged: the operations of the Branch Controller raise no event, and the bursts,
the timers and most requests touch neither the modes, the holds, the store nor an answer. -/

namespace Sys2Proof.Machine

/-! Operations that raise no event -/

/-- The second state differs from the first at most in the Branch Controllers, the lanes, the entries, the generators and
the last-served branch. -/
def JobWork (s t : State) : Prop :=
  t = { s with
    branches := t.branches, lanes := t.lanes, roster := t.roster, generators := t.generators
    lastServed := t.lastServed }

theorem JobWork.refl (s : State) : JobWork s s := rfl

theorem JobWork.trans {s t u : State} (hst : JobWork s t) (htu : JobWork t u) : JobWork s u := by
  unfold JobWork at *
  rw [htu]
  rw [hst]

theorem JobWork.foldl {α : Type} {f : State → α → State} (h : ∀ s a, JobWork s (f s a)) (l : List α) (s : State) :
    JobWork s (l.foldl f s) := by
  induction l generalizing s with
  | nil => exact .refl s
  | cons a l ih => exact (h s a).trans (ih _)

theorem TraceWork.jobWork {s t : State} (h : TraceWork s t) : JobWork s t := by
  unfold JobWork
  rw [h.frame]

theorem JobWork.port {s t : State} (h : JobWork s t) (p : Port) : t.port p = s.port p := by
  rw [h]
  rfl

theorem JobWork.ports {s t : State} (h : JobWork s t) : t.ports = s.ports := by rw [h]

theorem jobWork_setBranch (s : State) (b : Branch) (c : BranchCtl) : JobWork s (s.setBranch b c) := rfl

theorem jobWork_setQueue (s : State) (b : Branch) (q : List Job) : JobWork s (s.setQueue b q) := rfl

theorem jobWork_setEntry (s : State) (d : Drop) (e : Entry) : JobWork s (s.setEntry d e) := rfl

theorem jobWork_setLane (s : State) (b : Branch) (l : Lane) : JobWork s (s.setLane b l) := rfl

theorem jobWork_setGen (s : State) (g : Gen) (x : Generator) : JobWork s (s.setGen g x) := rfl

theorem jobWork_detachWhere (s : State) (p : Generator → Bool) : JobWork s (s.detachWhere p) := rfl

theorem jobWork_appendJob (s : State) (d : Drop) (k : JobKind) (q : Requester) : JobWork s (s.appendJob d k q) := rfl

theorem jobWork_sendCall (s : State) (b : Branch) (c : Call) : JobWork s (s.sendCall b c) := rfl

theorem jobWork_setHead (s : State) (b : Branch) (f : Job → Job) : JobWork s (s.setHead b f) := by
  unfold State.setHead
  split <;> exact rfl

theorem jobWork_matchAttempt (s : State) (b : Branch) : JobWork s (s.matchAttempt b) :=
  (jobWork_setHead s b _).trans ((jobWork_setBranch _ b _).trans (jobWork_sendCall _ b _))

theorem jobWork_rangeTry (s : State) (b : Branch) (d : Drop) : JobWork s (s.rangeTry b d) :=
  (jobWork_setHead s b _).trans
    ((jobWork_setBranch _ b _).trans ((jobWork_setLane _ b _).trans (jobWork_sendCall _ b _)))

theorem jobWork_openCall (s : State) (b : Branch) : JobWork s (s.openCall b) := rfl

/-- A grant is an open call, a match attempt, a range try, or nothing (R36). -/
theorem grant_cases (s : State) (b : Branch) :
    s.grant b = s ∨ s.grant b = s.openCall b ∨ s.grant b = s.matchAttempt b ∨
      ∃ j js, s.queue b = j :: js ∧ j.stage = .range ∧ s.grant b = s.rangeTry b j.drop := by
  unfold State.grant
  split
  · split
    · exact .inr (.inl rfl)
    · split
      next j js hqueue =>
        split
        · exact .inr (.inr (.inl rfl))
        next hstage => exact .inr (.inr (.inr ⟨j, js, hqueue, hstage, rfl⟩))
        · exact .inl rfl
      next => exact .inl rfl
  · exact .inl rfl

theorem jobWork_grant (s : State) (b : Branch) : JobWork s (s.grant b) := by
  rcases grant_cases s b with h | h | h | ⟨j, js, -, -, h⟩ <;> rw [h]
  · exact .refl s
  · exact jobWork_openCall s b
  · exact jobWork_matchAttempt s b
  · exact jobWork_rangeTry s b j.drop

/-- A request for a generator gives the lowest-numbered free one, or changes nothing (R116). -/
theorem requestGenerator_cases (s : State) (b : Branch) :
    s.requestGenerator b = s ∨
      ∃ g, s.bindingWait b = some .eligible ∧ s.freeGen = some g ∧ s.requestGenerator b = s.giveGenerator b g := by
  unfold State.requestGenerator
  split
  next g hwait hfree => exact .inr ⟨g, hwait, hfree, rfl⟩
  next => exact .inl rfl

theorem traceWork_requestGenerator (s : State) (b : Branch) : TraceWork s (s.requestGenerator b) := by
  rcases requestGenerator_cases s b with h | ⟨g, -, -, h⟩ <;> rw [h]
  · exact .refl s
  · exact traceWork_giveGenerator s b g

/-- What the start of a head job can be: nothing, a binding that asks for a generator, or a range (R39). -/
theorem startHead_cases (s : State) (b : Branch) :
    s.startHead b = s ∨
    (∃ j js, s.queue b = j :: js ∧ s.mode = .live ∧ j.stage = .waiting ∧ j.kind = .activate ∧
      s.startHead b = (s.setQueue b ({ j with stage := .waitTrace } :: js)).requestGenerator b) ∨
    ∃ j js, s.queue b = j :: js ∧ s.mode = .live ∧ j.stage = .waiting ∧ j.kind = .rejoin ∧
      s.startHead b = (s.setQueue b ({ j with stage := .range, attempts := 0 } :: js)).setEntry j.drop
        ((s.entry j.drop).enter .ranging) := by
  unfold State.startHead
  split
  next j js hqueue =>
    split
    next hstart =>
      obtain ⟨hlive, hwaiting⟩ := hstart
      split
      next hkind => exact .inr (.inl ⟨j, js, hqueue, hlive, hwaiting, hkind, rfl⟩)
      next hkind => exact .inr (.inr ⟨j, js, hqueue, hlive, hwaiting, hkind, rfl⟩)
    next => exact .inl rfl
  next => exact .inl rfl

theorem jobWork_startHead (s : State) (b : Branch) : JobWork s (s.startHead b) := by
  rcases startHead_cases s b with h | ⟨j, js, -, -, -, -, h⟩ | ⟨j, js, -, -, -, -, h⟩ <;> rw [h]
  · exact .refl s
  · exact (jobWork_setQueue s b _).trans (traceWork_requestGenerator _ b).jobWork
  · exact (jobWork_setQueue s b _).trans (jobWork_setEntry _ _ _)

theorem jobWork_proceed (s : State) (b : Branch) : JobWork s (s.proceed b) :=
  (jobWork_startHead s b).trans (jobWork_grant _ b)

theorem jobWork_proceedAll (s : State) : JobWork s s.proceedAll :=
  (JobWork.foldl jobWork_startHead _ s).trans (.foldl jobWork_grant _ _)

theorem jobWork_queuePending (s : State) (d : Drop) : JobWork s (s.queuePending d) := rfl

/-- A refill queues the lowest-numbered pending drop, or changes nothing (R33). -/
theorem refill_cases (s : State) (b : Branch) :
    s.refill b = s ∨ ∃ d ds, s.intakeOpen = true ∧ (s.queue b).length < 6 ∧ s.pendingDrops b = d :: ds ∧
      s.refill b = s.queuePending d := by
  unfold State.refill
  split
  next hroom =>
    split
    next d ds hpending => exact .inr ⟨d, ds, hroom.1, hroom.2, hpending, rfl⟩
    next => exact .inl rfl
  next => exact .inl rfl

theorem jobWork_refill (s : State) (b : Branch) : JobWork s (s.refill b) := by
  rcases refill_cases s b with h | ⟨d, ds, -, -, -, h⟩ <;> rw [h]
  · exact .refl s
  · exact jobWork_queuePending s d

theorem jobWork_fill (s : State) (b : Branch) : JobWork s (s.fill b) :=
  JobWork.foldl (fun t d => jobWork_queuePending t d) _ s

theorem jobWork_fillAll (s : State) : JobWork s s.fillAll := JobWork.foldl jobWork_fill _ s

theorem jobWork_offerAll (s : State) (gs : List Gen) : JobWork s (s.offerAll gs) := (traceWork_offerAll s gs).jobWork

theorem jobWork_detachAndOffer (s : State) (p : Generator → Bool) : JobWork s (s.detachAndOffer p) :=
  (traceWork_detachAndOffer s p).jobWork

theorem jobWork_dropJob (s : State) (j : Job) (e : Entry) : JobWork s (s.dropJob j e) :=
  ((jobWork_detachWhere s _).trans ((jobWork_setBranch _ _ _).trans (jobWork_setEntry _ _ _))).trans
    (jobWork_offerAll _ _)

theorem jobWork_takeEcho (s : State) (n : Serial) (b : Branch) (obs : Steps) (bound : Option Drop) :
    JobWork s (s.takeEcho n b obs bound) := by
  unfold State.takeEcho
  split
  · split <;> exact rfl
  · exact rfl

/-! Operations that touch no mode, no hold, no store record and no answer -/

/-- The second state differs from the first at most in the working records of the blocks and in the event copies, masks,
causes and counts of the ports: no answer, mode, hold or store record changes, and no claim is new. -/
structure Steady (s t : State) : Prop where
  frame : t = { s with
    ports := t.ports, roster := t.roster, claims := t.claims, lapses := t.lapses, branches := t.branches
    lanes := t.lanes, arrivals := t.arrivals, ageLimitRead := t.ageLimitRead, unknown := t.unknown
    generators := t.generators, lastServed := t.lastServed, baseTick := t.baseTick }
  answers : ∀ p, (t.port p).answer = (s.port p).answer
  holds : ∀ f d, t.holds f d = true → s.holds f d = true

theorem Steady.refl (s : State) : Steady s s := ⟨rfl, fun _ => rfl, fun _ _ h => h⟩

theorem Steady.trans {s t u : State} (hst : Steady s t) (htu : Steady t u) : Steady s u where
  frame := by
    rw [htu.frame]
    rw [hst.frame]
  answers p := (htu.answers p).trans (hst.answers p)
  holds f d h := hst.holds f d (htu.holds f d h)

theorem Steady.foldl {α : Type} {f : State → α → State} (h : ∀ s a, Steady s (f s a)) (l : List α) (s : State) :
    Steady s (l.foldl f s) := by
  induction l generalizing s with
  | nil => exact .refl s
  | cons a l ih => exact (h s a).trans (ih _)

theorem holds_of_claims {s t : State} (h : t.claims = s.claims) (f : FieldPort) (d : Drop) : t.holds f d = s.holds f d := by
  simp [State.holds, State.claim, h]

theorem JobWork.steady {s t : State} (h : JobWork s t) : Steady s t where
  frame := by rw [h]
  answers p := by rw [h.port p]
  holds f d ht := by rwa [holds_of_claims (by rw [h])] at ht

theorem steady_raise (s : State) (e : Event) : Steady s (s.raise e) where
  frame := rfl
  answers p := by rw [State.raise_port]; rfl
  holds _ _ h := h

/-- A change of a port's record that leaves its answer. -/
theorem steady_setPort (s : State) (p : Port) (v : PortRecord) (h : v.answer = (s.port p).answer) :
    Steady s (s.setPort p v) where
  frame := rfl
  answers q := by
    rw [State.setPort_port]
    split
    next hpq => rw [← hpq, h]
    next => rfl
  holds _ _ hh := hh

theorem steady_raiseFor (s : State) (f : FieldPort) (e : Event) : Steady s (s.raiseFor f e) := steady_setPort s _ _ rfl

theorem steady_setArrivals (s : State) (b : Branch) (l : ArrivalsList) : Steady s (s.setArrivals b l) :=
  ⟨rfl, fun _ => rfl, fun _ _ h => h⟩

theorem steady_unlist (s : State) (n : Serial) : Steady s (s.unlist n) := ⟨rfl, fun _ => rfl, fun _ _ h => h⟩

theorem steady_setClaim_none (s : State) (d : Drop) : Steady s (s.setClaim d none) where
  frame := rfl
  answers _ := rfl
  holds f e h := by
    rw [State.holds, State.setClaim_claim] at h
    split at h
    · simp at h
    · exact h

theorem steady_setLapse (s : State) (f : FieldPort) (d : Drop) : Steady s (s.setLapse f d) :=
  ⟨rfl, fun _ => rfl, fun _ _ h => h⟩

theorem steady_loseClaim (s : State) (f : FieldPort) (d : Drop) : Steady s (s.loseClaim f d) :=
  (steady_setClaim_none s d).trans ((steady_setLapse _ f d).trans (steady_raiseFor _ f _))

theorem steady_endJob (s : State) (j : Job) (e : Entry) (ev : Option Event) : Steady s (s.endJob j e ev) := by
  refine (jobWork_dropJob s j e).steady.trans ?_
  cases ev with
  | none => exact ((jobWork_refill _ _).trans (jobWork_proceed _ _)).steady
  | some ev => exact (steady_raise _ ev).trans ((jobWork_refill _ _).trans (jobWork_proceed _ _)).steady

theorem steady_abandonJob (s : State) (j : Job) : Steady s (s.abandonJob j) :=
  (jobWork_dropJob s j _).steady.trans
    ((steady_raise _ _).trans ((jobWork_appendJob _ _ _ _).trans (jobWork_proceed _ _)).steady)

/-- A rejoin request queues a job, sets the pending flag, or changes nothing (R32). -/
theorem rejoinRequest_cases (s : State) (d : Drop) :
    (s.intakeOpen = true ∧ (s.queue d.branch).length < 6 ∧
      s.rejoinRequest d = (s.appendJob d .rejoin .roster).proceed d.branch) ∨
    ((s.intakeOpen = true → 6 ≤ (s.queue d.branch).length) ∧ (s.entry d).rejoinPending = true ∧
      s.rejoinRequest d = s) ∨
    ((s.intakeOpen = true → 6 ≤ (s.queue d.branch).length) ∧ (s.entry d).rejoinPending = false ∧
      s.rejoinRequest d = (s.setEntry d { s.entry d with rejoinPending := true }).raise .rejoinWaiting) := by
  unfold State.rejoinRequest
  split
  next hroom => exact .inl ⟨hroom.1, hroom.2, rfl⟩
  next hclosed =>
    have hfull : s.intakeOpen = true → 6 ≤ (s.queue d.branch).length := fun hopen =>
      Nat.not_lt.mp fun hlt => hclosed ⟨hopen, hlt⟩
    split
    next hpending => exact .inr (.inl ⟨hfull, hpending, rfl⟩)
    next hclear => exact .inr (.inr ⟨hfull, by simpa using hclear, rfl⟩)

theorem steady_rejoinRequest (s : State) (d : Drop) : Steady s (s.rejoinRequest d) := by
  rcases rejoinRequest_cases s d with ⟨-, -, h⟩ | ⟨-, -, h⟩ | ⟨-, -, h⟩ <;> rw [h]
  · exact ((jobWork_appendJob s d _ _).trans (jobWork_proceed _ _)).steady
  · exact .refl s
  · exact (jobWork_setEntry s d _).steady.trans (steady_raise _ _)

/-! Bursts -/

theorem steady_reportFault (s : State) (b : Branch) (k : FaultKind) : Steady s (s.reportFault b k) := by
  unfold State.reportFault
  split
  · exact (jobWork_setLane s b _).steady.trans (steady_raise _ _)
  · exact .refl s

theorem steady_offerUnknown (s : State) (b : Branch) (kind : BitVec 4) : Steady s (s.offerUnknown b kind) := by
  have hset : ∀ u, Steady s { s with unknown := u } := fun u => ⟨rfl, fun _ => rfl, fun _ _ h => h⟩
  unfold State.offerUnknown
  split
  · exact .refl s
  · split
    · exact (hset _).trans (steady_raise _ _)
    · split
      · exact .refl s
      · exact (hset _).trans (steady_raise _ _)

theorem steady_noteProvider (s : State) (b : Branch) (t : BitVec 3) : Steady s (s.noteProvider b t) := by
  unfold State.noteProvider
  split
  · exact .refl s
  · dsimp only
    split
    · exact (jobWork_setLane s b _).steady.trans (steady_reportFault _ b _)
    · exact (jobWork_setLane s b _).steady

theorem steady_helloOwnBranch (s : State) (d : Drop) : Steady s (s.helloOwnBranch d) := by
  unfold State.helloOwnBranch
  split
  · exact (jobWork_setEntry s d _).steady.trans (steady_rejoinRequest _ d)
  · exact (jobWork_setEntry s d _).steady.trans (steady_rejoinRequest _ d)
  · exact steady_abandonJob s _
  · exact steady_rejoinRequest s d
  · exact .refl s

theorem steady_moveEntry (s : State) (d : Drop) : Steady s (s.moveEntry d) := by
  refine Steady.trans ?_ (steady_raise _ _)
  split
  · exact steady_endJob s _ _ _
  · exact (jobWork_setEntry s d _).steady

theorem steady_addArrival (s : State) (b : Branch) (r : Report) : Steady s (s.addArrival b r) := by
  unfold State.addArrival
  refine (steady_unlist s r.serial).trans ?_
  dsimp only
  split
  · exact (steady_setArrivals _ b _).trans (steady_raise _ _)
  · exact (steady_setArrivals _ b _).trans (steady_raise _ _)

theorem steady_takeHello (s : State) (b : Branch) (r : Report) : Steady s (s.takeHello b r) := by
  unfold State.takeHello
  split
  · split
    · exact steady_helloOwnBranch s _
    · exact (steady_moveEntry s _).trans (steady_addArrival _ b r)
  · split
    · exact steady_setArrivals s b _
    · exact steady_addArrival s b r

theorem steady_refuseMatch (s : State) (j : Job) (r : Report) (why : LastResult) (judged : Bool) :
    Steady s (s.refuseMatch j r why judged) := by
  unfold State.refuseMatch
  exact steady_endJob s _ _ _

theorem steady_succeedMatch (s : State) (b : Branch) (j : Job) (r : Report) : Steady s (s.succeedMatch b j r) :=
  ((jobWork_setBranch s b _).trans (jobWork_setEntry _ _ _)).steady.trans
    ((steady_unlist _ r.serial).trans ((jobWork_setHead _ b _).trans (jobWork_detachAndOffer _ _)).steady)

theorem steady_judgeReply (s : State) (b : Branch) (j : Job) (r : Report) : Steady s (s.judgeReply b j r) := by
  unfold State.judgeReply
  cases s.judgeMatch b j.drop r with
  | ignored => exact .refl s
  | unheard => exact (jobWork_setBranch s b _).steady.trans (steady_reportFault _ b _)
  | success => exact steady_succeedMatch s b j r
  | crossed | providerOff | providerMismatch | levelLow | levelHigh => exact steady_refuseMatch s j r _ _

theorem steady_takeMatchReply (s : State) (b : Branch) (r : Report) : Steady s (s.takeMatchReply b r) := by
  unfold State.takeMatchReply
  split
  · split
    · exact .refl s
    · exact steady_reportFault s b _
  · split
    · split
      · exact steady_judgeReply s b _ r
      · exact .refl s
    · exact .refl s

theorem steady_rangeDone (s : State) (b : Branch) (j : Job) (trip : Nat) : Steady s (s.rangeDone b j trip) :=
  ((((jobWork_setBranch s b _).trans (jobWork_setEntry _ _ _)).trans (jobWork_setHead _ b _)).trans
    ((jobWork_sendCall _ b _).trans (jobWork_grant _ b))).steady

theorem steady_takeRangeReply (s : State) (b : Branch) (n : Serial) (c : Option RangeCounter) :
    Steady s (s.takeRangeReply b n c) := by
  unfold State.takeRangeReply
  split
  · split
    · split
      · exact steady_endJob s _ _ _
      · exact steady_rangeDone s b _ _
    · exact .refl s
  · exact .refl s

theorem steady_judgeLevel (s : State) (d : Drop) (raw : Nat) : Steady s (s.judgeLevel d raw) := by
  unfold State.judgeLevel
  dsimp only
  split
  · exact (jobWork_setEntry s d _).steady.trans (steady_raise _ _)
  · exact (jobWork_setEntry s d _).steady

theorem steady_takePresence (s : State) (d : Drop) (raw : Nat) : Steady s (s.takePresence d raw) := by
  have hactive : ∀ t : State, Steady t (t.presenceActive d raw) := fun t =>
    (jobWork_setEntry t d _).steady.trans (steady_judgeLevel _ d raw)
  unfold State.takePresence
  split
  · exact hactive s
  · exact (jobWork_setEntry s d _).steady.trans (steady_judgeLevel _ d raw)
  · unfold State.completeAdmit
    exact (jobWork_setEntry s d _).steady.trans ((hactive _).trans (steady_endJob _ _ _ _))
  · exact .refl s

theorem steady_handOn (s : State) (b : Branch) (k : BurstKind) (r : Report) (c : Option RangeCounter) :
    Steady s (s.handOn b k r c) := by
  cases k with
  | hello => exact (jobWork_takeEcho s _ _ _ _).steady.trans (steady_takeHello _ b r)
  | matchReply => exact steady_takeMatchReply s b r
  | rangeReply => exact steady_takeRangeReply s b _ c
  | presence =>
    unfold State.handOn
    dsimp only
    split
    · exact (jobWork_takeEcho s _ _ _ _).steady.trans (steady_takePresence _ _ _)
    · exact .refl s

theorem steady_takeIntact (s : State) (b : Branch) (h : Header) (payload : List Byte) (c : Option RangeCounter) :
    Steady s (s.takeIntact b h payload c) := by
  unfold State.takeIntact
  split
  · exact (steady_reportFault s b _).trans (steady_offerUnknown _ b _)
  · unfold State.takeKnown
    split
    · exact steady_reportFault s b _
    · split
      · exact steady_reportFault s b _
      · exact (steady_noteProvider s b _).trans (steady_handOn _ b _ _ c)

theorem steady_takePart (s : State) (b : Branch) (x : Burst) (r : Reception) : Steady s (s.takePart b x r) := by
  have hfound : ∀ (t : State) (fs : List FaultKind), Steady t (t.reportFound b fs) := fun t fs =>
    Steady.foldl (fun u k => steady_reportFault u b k) fs t
  have hafter : ∀ (t : State) (fs : List FaultKind), Steady t (t.afterPreamble b fs) := fun t fs => by
    unfold State.afterPreamble
    split
    · exact (jobWork_setLane t b _).steady.trans (steady_raise _ _)
    · exact .refl t
  unfold State.takePart
  dsimp only
  have hchecked : ∀ (q : Option Reception) (fs : List FaultKind),
      Steady s (((s.setReception b q).reportFound b fs).afterPreamble b fs) := fun q fs =>
    (jobWork_setLane s b _).steady.trans ((hfound _ fs).trans (hafter _ fs))
  split
  · exact (hchecked _ _).trans (steady_takeIntact _ b _ _ _)
  · exact hchecked _ _

theorem steady_ignoreBurst (s : State) (b : Branch) (x : Burst) : Steady s (s.ignoreBurst b x) :=
  (jobWork_setLane s b _).steady

theorem steady_receive (s : State) (b : Branch) (x : Burst) : Steady s (s.receive b x) := by
  unfold State.receive
  dsimp only
  split
  · exact steady_takePart s b x _
  · exact steady_ignoreBurst s b x

/-! Timers and ticks -/

theorem steady_openCallDue (s : State) (b : Branch) : Steady s (s.openCallDue b) := by
  unfold State.openCallDue
  split
  · exact ((jobWork_setBranch s b _).trans (jobWork_grant _ b)).steady
  · exact .refl s

theorem steady_openCallEnd (s : State) (b : Branch) : Steady s (s.openCallEnd b) := by
  unfold State.openCallEnd
  split
  · exact ((jobWork_setBranch s b _).trans (jobWork_grant _ b)).steady
  · exact .refl s

theorem steady_matchListenEnd (s : State) (b : Branch) : Steady s (s.matchListenEnd b) := by
  unfold State.matchListenEnd
  split
  · dsimp only
    split
    · split
      · exact (jobWork_setBranch s b _).steady.trans (steady_endJob _ _ _ _)
      · exact ((jobWork_setBranch s b _).trans (jobWork_grant _ b)).steady
    · exact ((jobWork_setBranch s b _).trans (jobWork_grant _ b)).steady
  · exact .refl s

theorem steady_rangeListenTimeout (s : State) (b : Branch) : Steady s (s.rangeListenTimeout b) := by
  unfold State.rangeListenTimeout
  split
  · dsimp only
    split
    · split
      · exact (jobWork_setBranch s b _).steady.trans (steady_endJob _ _ _ _)
      · exact ((jobWork_setBranch s b _).trans (jobWork_grant _ b)).steady
    · exact ((jobWork_setBranch s b _).trans (jobWork_grant _ b)).steady
  · exact .refl s

theorem steady_admitWaitExpiry (s : State) (b : Branch) : Steady s (s.admitWaitExpiry b) := by
  unfold State.admitWaitExpiry
  split
  · split
    · unfold State.admitExpired
      exact (jobWork_sendCall s b _).steady.trans (steady_endJob _ _ _ _)
    · exact .refl s
  · exact .refl s

theorem jobWork_enterMatch (s : State) (b : Branch) : JobWork s (s.enterMatch b) := by
  unfold State.enterMatch
  split
  · split
    · exact ((jobWork_setHead s b _).trans (jobWork_setEntry _ _ _)).trans
        ((jobWork_setBranch _ b _).trans (jobWork_grant _ b))
    · exact .refl s
  · exact .refl s

/-- A frame mark leaves a branch that counts none; a counting job counts it, and enters MATCH where the count has come to
three (R40). -/
theorem branchMark_cases (changed : Bool) (s : State) (b : Branch) :
    ((s.branch b).frameMarks = none ∧ s.branchMark changed b = s) ∨
    ∃ n, (s.branch b).frameMarks = some n ∧
      let m := if changed then 1 else n + 1
      let u := s.setBranch b { s.branch b with frameMarks := some m }
      s.branchMark changed b = if 3 ≤ m then u.enterMatch b else u := by
  unfold State.branchMark
  split
  next n hmarks => exact .inr ⟨n, hmarks, by simp [State.countDone]⟩
  next hmarks => exact .inl ⟨hmarks, rfl⟩

theorem jobWork_branchMark (changed : Bool) (s : State) (b : Branch) : JobWork s (s.branchMark changed b) := by
  rcases branchMark_cases changed s b with ⟨-, h⟩ | ⟨n, -, h⟩
  · rw [h]
    exact .refl s
  · dsimp only at h
    rw [h]
    generalize (if changed then 1 else n + 1) = m
    split
    · exact (jobWork_setBranch s b _).trans (jobWork_enterMatch _ b)
    · exact jobWork_setBranch s b _

theorem steady_silenceIfDue (s : State) (d : Drop) : Steady s (s.silenceIfDue d) := by
  unfold State.silenceIfDue
  split
  · exact (jobWork_setEntry s d _).steady.trans (steady_raise _ _)
  · exact .refl s

theorem jobWork_countEntry (s : State) (d : Drop) : JobWork s (s.countEntry d) := by
  unfold State.countEntry
  dsimp only
  split
  · split
    · exact jobWork_setEntry s d _
    · exact .refl s
  · exact .refl s

theorem steady_presenceTick (s : State) : Steady s s.presenceTick := by
  have htick : Steady s { s with baseTick := (s.baseTick + 1) % 8 } := ⟨rfl, fun _ => rfl, fun _ _ h => h⟩
  exact htick.trans ((JobWork.foldl jobWork_countEntry _ _).steady.trans (Steady.foldl steady_silenceIfDue _ _))

theorem steady_tickLeases (s : State) : Steady s s.tickLeases where
  frame := by simp only [State.tickLeases]
  answers _ := by simp only [State.tickLeases, State.port]
  holds f d h := by
    have hclaim : s.tickLeases.claim d = (s.claim d).map Claim.tick := by simp [State.tickLeases, State.claim]
    have hholder : (Claim.holder ∘ Claim.tick) = Claim.holder := rfl
    rw [State.holds, hclaim, Option.map_map, hholder] at h
    rw [State.holds]
    exact h

theorem steady_lapseAll (s : State) : Steady s s.lapseAll := by
  refine (jobWork_detachWhere s _).steady.trans (Steady.trans (Steady.foldl (fun t d => ?_) _ _)
    (jobWork_offerAll _ _).steady)
  split
  · exact steady_loseClaim t _ d
  · exact .refl t

theorem steady_minuteTick (s : State) : Steady s s.minuteTick := by
  have harrivals : Steady s s.tickArrivals := ⟨rfl, fun _ => rfl, fun _ _ h => h⟩
  exact harrivals.trans ((steady_tickLeases _).trans (steady_lapseAll _))

theorem steady_revokeClaim (s : State) (f : FieldPort) (d : Drop) : Steady s (s.revokeClaim f d) :=
  (jobWork_detachAndOffer s _).steady.trans (steady_loseClaim _ f d)

end Sys2Proof.Machine

/-! PROOFS. What every command keeps of the part's control: the command queue, the commit marks, the modes and holds, a
held RESTART and the claim limit (R109, R133, R144, R149, R167, R172). -/

namespace Sys2Proof.Machine

/-- Every law of the part's control that holds of the first state holds of the second. -/
structure ControlKept (s t : State) : Prop where
  pending : t.pending = s.pending
  marks : ∀ d, (s.slot d).marks ≤ (t.slot d).marks
  headerMarks : s.header.marks ≤ t.header.marks
  limit : s.MarksInv → t.MarksInv
  mode : s.ModeInv → t.ModeInv
  restart : s.RestartInv → t.RestartInv
  claims : s.ClaimInv → t.ClaimInv

theorem ControlKept.refl (s : State) : ControlKept s s :=
  ⟨rfl, fun _ => le_rfl, le_rfl, id, id, id, id⟩

theorem ControlKept.trans {s t u : State} (hst : ControlKept s t) (htu : ControlKept t u) : ControlKept s u where
  pending := htu.pending.trans hst.pending
  marks d := (hst.marks d).trans (htu.marks d)
  headerMarks := hst.headerMarks.trans htu.headerMarks
  limit h := htu.limit (hst.limit h)
  mode h := htu.mode (hst.mode h)
  restart h := htu.restart (hst.restart h)
  claims h := htu.claims (hst.claims h)

/-! Commit marks -/

/-- The second state's store records have the marks of the first's. -/
def MarksStand (s t : State) : Prop := (∀ d, (t.slot d).marks = (s.slot d).marks) ∧ t.header.marks = s.header.marks

theorem MarksStand.limit {s t : State} (h : MarksStand s t) (hs : s.MarksInv) : t.MarksInv :=
  ⟨fun d => (h.1 d).trans_le (hs.1 d), h.2.trans_le hs.2⟩

theorem marksStand_of_store {s t : State} (hslots : t.slots = s.slots) (hheader : t.header = s.header) : MarksStand s t :=
  ⟨fun d => by simp [State.slot, hslots], by rw [hheader]⟩

/-! Claims -/

theorem claimCount_le {s t : State} (h : ∀ f d, t.holds f d = true → s.holds f d = true) (f : FieldPort) :
    t.claimCount f ≤ s.claimCount f := by
  rw [claimCount_eq, claimCount_eq]
  exact (List.monotone_filter_right allDrops (h f)).length_le

theorem claimInv_of_holds {s t : State} (h : ∀ f d, t.holds f d = true → s.holds f d = true) (hs : s.ClaimInv) :
    t.ClaimInv :=
  ⟨(claimCount_le h _).trans hs.1, (claimCount_le h _).trans hs.2⟩

theorem holds_of_no_claims {s t : State} (h : ∀ d, t.claim d = none) (f : FieldPort) (d : Drop) :
    t.holds f d = true → s.holds f d = true := by
  simp [State.holds, h d]

/-- A claim granted to a port that holds the drop changes no holder. -/
theorem grantClaim_holds {s : State} {f : FieldPort} {d : Drop} (hheld : s.holds f d = true) (g : FieldPort) (e : Drop) :
    (s.grantClaim f d).holds g e = s.holds g e := by
  obtain ⟨c, hclaim, hholder⟩ := holds_iff.mp hheld
  unfold State.holds State.grantClaim
  rw [State.setClaim_claim]
  split
  next hde => subst hde; simp [hclaim, hholder]
  next => rfl

/-- A free drop granted to a port adds one to its claims, and none to the other port's. -/
theorem claimCount_grantClaim {s : State} {f : FieldPort} {d : Drop} (hfree : s.claim d = none) :
    (s.grantClaim f d).claimCount f = s.claimCount f + 1 ∧
      ∀ g, g ≠ f → (s.grantClaim f d).claimCount g ≤ s.claimCount g := by
  have hnew : (s.grantClaim f d).claim d = some ⟨f, s.settings.lease⟩ := State.setClaim_claim_same ..
  refine ⟨(claimCount_of_claim_ended (holds_iff.mpr ⟨_, hnew, rfl⟩) hfree fun e he => ?_).symm, fun g hg => ?_⟩
  · exact (State.setClaim_claim_ne _ _ _ _ he.symm).symm
  · rw [claimCount_eq, claimCount_eq]
    refine (List.monotone_filter_right allDrops fun e he => ?_).length_le
    obtain ⟨c, hclaim, hholder⟩ := holds_iff.mp he
    by_cases hde : d = e
    · subst hde
      rw [hnew] at hclaim
      cases hclaim
      exact absurd hholder.symm hg
    · rw [State.grantClaim, State.setClaim_claim_ne _ _ _ _ hde] at hclaim
      exact holds_iff.mpr ⟨c, hclaim, hholder⟩

/-! Steady operations keep the control -/

theorem Steady.restart_eq {s t : State} (h : Steady s t) : t.restart = s.restart := by rw [h.frame]

theorem Steady.startup_eq {s t : State} (h : Steady s t) : t.startup = s.startup := by rw [h.frame]

theorem Steady.isRunning_eq {s t : State} (h : Steady s t) : t.isRunning = s.isRunning := by
  unfold State.isRunning
  rw [h.startup_eq]

theorem Steady.controller_eq {s t : State} (h : Steady s t) : t.controller = s.controller := by rw [h.frame]

theorem Steady.marksStand {s t : State} (h : Steady s t) : MarksStand s t :=
  marksStand_of_store (by rw [h.frame]) (by rw [h.frame])

/-- A held RESTART stays so while its port's answer, the start-up state and the controller stand. -/
theorem restartInv_of_eq {s t : State} (hrestart : t.restart = s.restart) (hrun : t.isRunning = s.isRunning)
    (hctl : t.controller = s.controller)
    (hanswer : (s.port .uplink).answer = .answering none → (t.port .uplink).answer = .answering none)
    (hs : s.RestartInv) : t.RestartInv := by
  intro hheld
  rw [hrestart] at hheld
  obtain ⟨h1, h2, h3⟩ := hs hheld
  exact ⟨hrun.trans h1, hanswer h2, by rw [hctl, h3]⟩

/-- The mode's law reads nothing but the modes, the monitor, the start-up state, the frame timer and the holds. -/
theorem modeInv_of_eq {s t : State} (hmode : t.mode = s.mode) (hmonitor : t.monitor = s.monitor)
    (hresume : t.resume = s.resume) (hstartup : t.startup = s.startup) (hframe : t.frame = s.frame)
    (hpower : t.powerOnHold = s.powerOnHold) (hsupply : t.supplyHold = s.supplyHold) (hpin : t.pinHold = s.pinHold)
    (hs : s.ModeInv) : t.ModeInv := by
  unfold State.ModeInv State.NoHolds State.isRunning at *
  rw [hmode, hmonitor, hresume, hstartup, hframe, hpower, hsupply, hpin]
  exact hs

theorem Steady.kept {s t : State} (h : Steady s t) : ControlKept s t where
  pending := by rw [h.frame]
  marks d := (h.marksStand.1 d).ge
  headerMarks := h.marksStand.2.ge
  limit := h.marksStand.limit
  mode := modeInv_of_eq (by rw [h.frame]) (by rw [h.frame]) (by rw [h.frame]) h.startup_eq (by rw [h.frame])
    (by rw [h.frame]) (by rw [h.frame]) (by rw [h.frame])
  restart := restartInv_of_eq h.restart_eq h.isRunning_eq h.controller_eq fun ha => by rw [h.answers, ha]
  claims := claimInv_of_holds h.holds

/-- A response that goes out frees its port, and a held RESTART has none yet (R172, R176). -/
theorem kept_sendOut (s : State) (p : Port) : ControlKept s (s.sendOut p) := by
  unfold State.sendOut
  split
  next resp hanswer =>
    refine ⟨rfl, fun _ => le_rfl, le_rfl, id, id, restartInv_of_eq rfl rfl rfl fun hheld => ?_, id⟩
    rw [State.setPort_port]
    split
    next hp =>
      rw [hp, hheld] at hanswer
      cases hanswer
    next => exact hheld
  next => exact .refl s

/-! Resets (R152, R165, R167) -/

theorem settleHolds_eq (s : State) :
    s.settleHolds = { s with
      powerOnHold := s.powerOnHold && decide (s.supply < powerOnThreshold)
      supplyHold := s.supplyHold && s.belowRecovery
      startup := if s.startup = .held ∧ (s.powerOnHold && decide (s.supply < powerOnThreshold)) = false ∧
        (s.supplyHold && s.belowRecovery) = false ∧ s.pinHold = false then .scanning false else s.startup } := by
  unfold State.settleHolds
  dsimp only
  by_cases hfree : s.startup = .held ∧ (s.powerOnHold && decide (s.supply < powerOnThreshold)) = false ∧
      (s.supplyHold && s.belowRecovery) = false ∧ s.pinHold = false
  · rw [if_pos hfree, if_pos hfree]
  · rw [if_neg hfree, if_neg hfree]

/-- A part that is HELD starts the scan when no hold is left (R167). -/
theorem settleHolds_held {s : State} (hheld : s.startup = .held) :
    s.settleHolds = { s with
      powerOnHold := s.powerOnHold && decide (s.supply < powerOnThreshold)
      supplyHold := s.supplyHold && s.belowRecovery
      startup := if (s.powerOnHold && decide (s.supply < powerOnThreshold)) = false ∧ (s.supplyHold && s.belowRecovery) = false ∧
        s.pinHold = false then .scanning false else .held } := by
  rw [settleHolds_eq]
  simp only [hheld, true_and]

/-- A cut write leaves everything but the records' marks of the cut (R152). -/
theorem tearWrite_frame (s : State) : s.tearWrite = { s with slots := s.tearWrite.slots, header := s.tearWrite.header } := by
  unfold State.tearWrite
  split <;> rfl

theorem tearWrite_slot (s : State) (d : Drop) :
    ∃ cut, s.tearWrite.slot d = { s.slot d with cut := cut } ∧
      (cut = true ↔ (s.slot d).cut = true ∨ ∃ body, s.controller = .writing (.slot d body)) := by
  unfold State.tearWrite
  split
  next e body hwriting =>
    rw [State.setSlot_slot]
    split
    next hed => exact ⟨true, by rw [hed], by simp [hwriting, hed]⟩
    next hed => exact ⟨(s.slot d).cut, rfl, by simp [hwriting, hed]⟩
  next hwriting => exact ⟨(s.slot d).cut, rfl, by simp [hwriting]⟩
  next hslot _ =>
    refine ⟨(s.slot d).cut, rfl, ?_⟩
    simp only [iff_self_or]
    rintro ⟨body, hwriting⟩
    exact (hslot d body hwriting).elim

theorem tearWrite_header (s : State) :
    ∃ cut, s.tearWrite.header = { s.header with cut := cut } ∧
      (cut = true ↔ s.header.cut = true ∨ ∃ st n, s.controller = .writing (.header st n)) := by
  unfold State.tearWrite
  split
  next hwriting => exact ⟨s.header.cut, rfl, by simp [hwriting]⟩
  next st n hwriting => exact ⟨true, rfl, by simp [hwriting]⟩
  next _ hheader =>
    refine ⟨s.header.cut, rfl, ?_⟩
    simp only [iff_self_or]
    rintro ⟨st, n, hwriting⟩
    exact (hheader st n hwriting).elim

/-- A reset clears the working state, and then holds the part or starts the scan by what is still held (R167). -/
theorem takeReset_eq (src : ResetSource) (s : State) :
    ∃ power supply pin, s.takeReset src = { s.tearWrite.clearWork src with
      powerOnHold := power, supplyHold := supply, pinHold := pin
      startup := if power = false ∧ supply = false ∧ pin = false then .scanning false else .held } := by
  cases src <;> exact ⟨_, _, _, settleHolds_held rfl⟩

theorem takeReset_restart (src : ResetSource) (s : State) : (s.takeReset src).restart = none := by
  obtain ⟨_, _, _, h⟩ := takeReset_eq src s
  rw [h]
  rfl

theorem takeReset_claim (src : ResetSource) (s : State) (d : Drop) : (s.takeReset src).claim d = none := by
  obtain ⟨_, _, _, h⟩ := takeReset_eq src s
  rw [h]
  simp [State.claim, State.clearWork]

theorem takeReset_marksStand (src : ResetSource) (s : State) : MarksStand s (s.takeReset src) := by
  obtain ⟨_, _, _, h⟩ := takeReset_eq src s
  rw [h]
  constructor
  · intro d
    obtain ⟨cut, hslot, -⟩ := tearWrite_slot s d
    change (s.tearWrite.slot d).marks = _
    rw [hslot]
  · obtain ⟨cut, hheader, -⟩ := tearWrite_header s
    change s.tearWrite.header.marks = _
    rw [hheader]

theorem takeReset_pending (src : ResetSource) (s : State) : (s.takeReset src).pending = s.pending := by
  obtain ⟨_, _, _, h⟩ := takeReset_eq src s
  rw [h]
  change s.tearWrite.pending = s.pending
  rw [tearWrite_frame]

theorem takeReset_modeInv (src : ResetSource) (s : State) : (s.takeReset src).ModeInv := by
  obtain ⟨power, supply, pin, h⟩ := takeReset_eq src s
  rw [h]
  refine ⟨by simp [State.clearWork], fun _ => rfl, fun _ => rfl, ?_, ?_⟩
  · change frameFits _ none = true
    unfold State.isRunning
    dsimp only
    split <;> rfl
  · dsimp only
    split
    next hfree => exact fun _ => hfree
    next => exact fun hup => absurd rfl hup

/-- A reset keeps the commit marks, and leaves every other law true of the cleared state. -/
theorem kept_takeReset (src : ResetSource) (s : State) : ControlKept s (s.takeReset src) where
  pending := takeReset_pending src s
  marks d := ((takeReset_marksStand src s).1 d).ge
  headerMarks := (takeReset_marksStand src s).2.ge
  limit := (takeReset_marksStand src s).limit
  mode _ := takeReset_modeInv src s
  restart _ := fun h => by simp [takeReset_restart] at h
  claims := claimInv_of_holds (holds_of_no_claims (takeReset_claim src s))

/-! HOLD (R47, R48, R163, R164) -/

theorem jobWork_holdBranch (s : State) (b : Branch) : JobWork s (s.holdBranch b) := by
  unfold State.holdBranch
  dsimp only
  split
  · exact (jobWork_setEntry s _ _).trans (jobWork_setBranch _ b _)
  · exact jobWork_setBranch s b _

/-- The modes on entry into HOLD (R163). -/
def State.fallen (s : State) : State := { s with monitor := .low, mode := .hold, resume := s.inForce }

/-- The branches and the generators on entry into HOLD (R47). -/
def State.heldBack (s : State) : State :=
  (allBranches.foldl (fun t b => t.holdBranch b) s).detachWhere Generator.isBinding

theorem enterHold_eq (s : State) : s.enterHold = s.fallen.heldBack.raise .supplyLow := by
  cases h : s.mode <;> simp [State.enterHold, State.fallen, State.heldBack, State.inForce, h]

theorem jobWork_heldBack (s : State) : JobWork s s.heldBack :=
  (JobWork.foldl jobWork_holdBranch allBranches s).trans (jobWork_detachWhere _ _)

/-- A change of the modes and the monitor alone. -/
theorem kept_modes {s t : State} (hframe : t = { s with monitor := t.monitor, mode := t.mode, resume := t.resume })
    (hmode : s.ModeInv → t.ModeInv) : ControlKept s t where
  pending := by rw [hframe]
  marks d := by rw [hframe]; exact le_rfl
  headerMarks := by rw [hframe]
  limit h := by rw [hframe]; exact h
  mode := hmode
  restart h := by rw [hframe]; exact h
  claims h := by rw [hframe]; exact h

theorem kept_enterHold {s : State} (hrun : s.isRunning = true) : ControlKept s s.enterHold := by
  rw [enterHold_eq]
  refine ControlKept.trans (kept_modes (t := s.fallen) rfl ?_)
    ((jobWork_heldBack _).steady.trans (steady_raise _ _)).kept
  rintro ⟨-, -, -, hframe, hholds⟩
  refine ⟨by simp [State.fallen], by simp [State.fallen], fun hidle => ?_, hframe, hholds⟩
  exact absurd (hrun.symm.trans hidle) (by decide)

theorem jobWork_dueOpenCalls (s : State) : JobWork s s.dueOpenCalls := by
  simp only [JobWork, State.dueOpenCalls]

theorem kept_leaveHold {s : State} (hrun : s.isRunning = true) : ControlKept s s.leaveHold := by
  refine ControlKept.trans (kept_modes (t := { s with monitor := .ok, mode := s.resume.mode }) rfl ?_)
    (((jobWork_dueOpenCalls _).trans (jobWork_proceedAll _)).steady.trans (steady_raise _ _)).kept
  rintro ⟨-, -, -, hframe, hholds⟩
  refine ⟨?_, fun _ => rfl, fun hidle => ?_, hframe, hholds⟩
  · cases s.resume <;> simp [RunMode.mode]
  · exact absurd (hrun.symm.trans hidle) (by decide)

theorem kept_superviseSupply {s : State} (hrun : s.isRunning = true) : ControlKept s s.superviseSupply := by
  unfold State.superviseSupply
  split
  · split
    · exact kept_takeReset _ s
    · split
      · exact kept_leaveHold hrun
      · exact .refl s
  · split
    · split
      · exact kept_enterHold hrun
      · exact .refl s
    · split
      · exact .refl s
      · exact kept_leaveHold hrun

theorem enterHold_restart (s : State) : s.enterHold.restart = s.restart := by
  rw [enterHold_eq]
  exact ((jobWork_heldBack _).steady.trans (steady_raise _ _)).restart_eq

theorem leaveHold_restart (s : State) : s.leaveHold.restart = s.restart :=
  (((jobWork_dueOpenCalls _).trans (jobWork_proceedAll _)).steady.trans (steady_raise _ _)).restart_eq

/-- The comparison with the supply leaves a held RESTART waiting, but for a reset, which drops it. -/
theorem superviseSupply_restart (s : State) :
    s.superviseSupply.restart = s.restart ∨ s.superviseSupply.restart = none := by
  unfold State.superviseSupply
  split
  · split
    · exact .inr (takeReset_restart _ s)
    · split
      · exact .inl (leaveHold_restart s)
      · exact .inl rfl
  · split
    · split
      · exact .inl (enterHold_restart s)
      · exact .inl rfl
    · split
      · exact .inl rfl
      · exact .inl (leaveHold_restart s)

/-! Requests -/

section
variable {s : State} {P : State → Prop}

/-- What holds of the state before a request with checks, and after its effect where they pass, holds after it. -/
theorem checked_state {cs : List (Option Status)} {out : State × Answer} (hs : P s)
    (hout : firstFailure cs = none → P out.1) : P (checked s cs out).1 := by
  unfold checked
  split
  · exact hs
  next hpass => exact hout hpass

theorem withParams_state {α : Type} {v : Option α} {act : α → State × Answer} (hs : P s)
    (hact : ∀ a, v = some a → P (act a).1) : P (withParams s v act).1 := by
  cases v with
  | none => exact hs
  | some a => exact hact a rfl

theorem withField_state {p : Port} {act : FieldPort → State × Answer} (hs : P s) (hact : ∀ f, P (act f).1) :
    P (withField s p act).1 := by
  unfold withField
  split
  · exact hact _
  · exact hs

end

/-- What a request keeps: the control, and a held RESTART unless a reset drops it. -/
def BodyKept (s t : State) : Prop := ControlKept s t ∧ (t.restart = s.restart ∨ t.restart = none)

theorem BodyKept.refl (s : State) : BodyKept s s := ⟨.refl s, .inl rfl⟩

theorem Steady.bodyKept {s t : State} (h : Steady s t) : BodyKept s t := ⟨h.kept, .inl h.restart_eq⟩

theorem steady_clearEvents (s : State) (p : Port) : Steady s (s.clearEvents p) := steady_setPort s p _ rfl

theorem steady_clearCauses (s : State) (p : Port) : Steady s (s.clearCauses p) := steady_setPort s p _ rfl

theorem steady_setMask (s : State) (p : Port) (m : BitVec 16) : Steady s (s.setMask p m) := steady_setPort s p _ rfl

/-- A write that begins spends one of the four marks of its record (R149, R151). -/
theorem bodyKept_beginWrite {s t : State} (w : Write) (hframe : t = { s with
      nextSeq := t.nextSeq, estateId := t.estateId, unsaved := t.unsaved })
    (hroom : match w with | .slot d _ => (s.slot d).marks < 4 | .header _ _ => s.header.marks < 4) :
    BodyKept s (t.beginWrite w) := by
  have hslot : ∀ d, t.slot d = s.slot d := fun d => by rw [hframe]; rfl
  have hheader : t.header = s.header := by rw [hframe]
  have hrestart : t.restart = s.restart := by rw [hframe]
  have hmode : s.ModeInv → t.ModeInv := fun h => by rw [hframe]; exact h
  have hclaims : s.ClaimInv → t.ClaimInv := fun h => by rw [hframe]; exact h
  have hwaits : s.RestartInv → t.restart.isSome = true →
      t.isRunning = true ∧ (t.port .uplink).answer = .answering none := fun h hheld => by
    rw [hrestart] at hheld
    obtain ⟨h1, h2, -⟩ := h hheld
    rw [hframe]
    exact ⟨h1, h2⟩
  have hpending : t.pending = s.pending := by rw [hframe]
  cases w with
  | slot d body =>
    have hmarks : ∀ e, ((t.beginWrite (.slot d body)).slot e).marks =
        if d = e then (s.slot e).marks + 1 else (s.slot e).marks := fun e => by
      change ((t.setSlot d { t.slot d with marks := (t.slot d).marks + 1 }).slot e).marks = _
      rw [State.setSlot_slot]
      split
      next hde => rw [← hde, hslot]
      next => rw [hslot]
    refine ⟨⟨hpending, fun e => ?_, hheader.symm ▸ le_rfl, fun hlimit => ⟨fun e => ?_, ?_⟩, hmode,
      fun h hheld => ⟨(hwaits h hheld).1, (hwaits h hheld).2, rfl⟩, hclaims⟩, .inl hrestart⟩
    · rw [hmarks]
      split <;> omega
    · rw [hmarks]
      have := hlimit.1 e
      split
      next hde =>
        subst hde
        exact hroom
      next => exact this
    · exact hheader.symm ▸ hlimit.2
  | header st n =>
    have hmarks : (t.beginWrite (.header st n)).header.marks = s.header.marks + 1 := by rw [← hheader]; rfl
    refine ⟨⟨hpending, fun e => (congrArg StoreRecord.marks (hslot e)).ge, ?_,
      fun hlimit => ⟨fun e => (congrArg StoreRecord.marks (hslot e)).trans_le (hlimit.1 e), ?_⟩, hmode,
      fun h hheld => ⟨(hwaits h hheld).1, (hwaits h hheld).2, rfl⟩, hclaims⟩, .inl hrestart⟩
    · rw [hmarks]
      omega
    · rw [hmarks]
      exact hroom

/-- Writes are refused on a spent record (R149, R153). -/
theorem marks_of_writeChecks {s : State} {pre : List (Option Status)} {marks : Nat}
    (hpass : firstFailure (pre ++ s.writeChecks marks) = none) : marks < 4 := by
  have hspent : failIf (Config.commitMarks ≤ marks) .storeSpent = none :=
    firstFailure_eq_none.mp hpass _ (List.mem_append_right _ (by simp [State.writeChecks]))
  have hroom : ¬ Config.commitMarks ≤ marks := by simpa [failIf_eq_none] using hspent
  exact Nat.not_le.mp hroom

theorem steady_grantClaim {s : State} {f : FieldPort} {d : Drop} (hheld : s.holds f d = true) :
    Steady s (s.grantClaim f d) :=
  ⟨rfl, fun _ => rfl, fun g e h => by rwa [grantClaim_holds hheld] at h⟩

theorem steady_clearLapse (s : State) (f : FieldPort) (d : Drop) : Steady s (s.clearLapse f d) :=
  ⟨rfl, fun _ => rfl, fun _ _ h => h⟩

/-- CLAIM keeps within the limit: it is refused at 8 drops (R133, R135). -/
theorem bodyKept_claimDrop (s : State) (f : FieldPort) (d : Drop) : BodyKept s (s.claimDrop f d).1 := by
  unfold State.claimDrop
  split
  next c hclaim =>
    split
    next hholder => exact (steady_grantClaim (holds_iff.mpr ⟨c, hclaim, hholder⟩)).bodyKept
    next => exact .refl s
  next hfree =>
    split
    next => exact .refl s
    next hroom =>
      obtain ⟨hown, hother⟩ := claimCount_grantClaim (f := f) hfree
      have hlow : s.claimCount f < 8 := Nat.not_le.mp hroom
      have hgrant : ControlKept s (s.grantClaim f d) := by
        refine ⟨rfl, fun _ => le_rfl, le_rfl, id, id, id, ?_⟩
        rintro ⟨h1, h2⟩
        cases f with
        | field1 => exact ⟨by omega, (hother .field2 (by decide)).trans h2⟩
        | field2 => exact ⟨(hother .field1 (by decide)).trans h1, by omega⟩
      exact ⟨hgrant.trans (steady_clearLapse _ f d).kept, .inl rfl⟩

/-- A new mode keeps the modes together (R144, R146). -/
theorem kept_putMode {s : State} (hrun : s.isRunning = true) (m : RunMode) : ControlKept s (s.putMode m) := by
  refine kept_modes rfl ?_
  rintro ⟨hhold, -, -, hframe, hholds⟩
  have hm : m.mode ≠ .hold := by cases m <;> decide
  refine ⟨?_, fun hnot => ?_, fun hidle => absurd (hrun.symm.trans hidle) (by decide), hframe, hholds⟩
  · change (if s.mode = .hold then .hold else m.mode) = .hold ↔ s.monitor = .low
    rw [← hhold]
    split
    next h => simp [h]
    next h => simp [h, hm]
  · change m.mode = if s.mode = .hold then .hold else m.mode
    split
    next h => exact absurd (if_pos h) hnot
    next => rfl

theorem bodyKept_changeMode {s : State} (hrun : s.isRunning = true) (m : RunMode) : BodyKept s (s.changeMode m) := by
  cases m with
  | survey => exact ⟨kept_putMode hrun .survey, .inl rfl⟩
  | live =>
    have hfill := (jobWork_fillAll (s.putMode .live)).steady
    unfold State.changeMode
    dsimp only
    split
    · exact ⟨(kept_putMode hrun .live).trans hfill.kept, .inl hfill.restart_eq⟩
    · have hall := hfill.trans (jobWork_proceedAll _).steady
      exact ⟨(kept_putMode hrun .live).trans hall.kept, .inl hall.restart_eq⟩

theorem bodyKept_takeSettings {s : State} (hrun : s.isRunning = true) (st : Settings) : BodyKept s (s.takeSettings st) := by
  have hput : ControlKept s (s.putSettings st) ∧ (s.putSettings st).restart = s.restart ∧
      (s.putSettings st).isRunning = true := by
    unfold State.putSettings
    split
    · exact ⟨.refl s, rfl, hrun⟩
    · exact ⟨⟨rfl, fun _ => le_rfl, le_rfl, id, id, id, id⟩, rfl, hrun⟩
  obtain ⟨hkept, hrestart, hrunning⟩ := hput
  unfold State.takeSettings
  split
  · refine ⟨hkept.trans (kept_superviseSupply hrunning), ?_⟩
    rw [← hrestart]
    exact superviseSupply_restart _
  · exact ⟨hkept, .inl hrestart⟩

theorem steady_withdraw (s : State) (d : Drop) : Steady s (s.withdraw d) := by
  unfold State.withdraw
  dsimp only
  split
  · exact ((jobWork_sendCall s _ _).trans (jobWork_setEntry _ _ _)).steady
  · exact (jobWork_setEntry s _ _).steady

theorem steady_cancelJob (s : State) (j : Job) : Steady s (s.cancelJob j) := by
  unfold State.cancelJob
  dsimp only
  split
  · exact (jobWork_sendCall s _ _).steady.trans (steady_endJob _ _ _ _)
  · exact steady_endJob s _ _ _

theorem steady_releaseClaim (s : State) (f : FieldPort) (d : Drop) : Steady s (s.releaseClaim f d) :=
  (jobWork_detachAndOffer s _).steady.trans (steady_setClaim_none _ d)

theorem readOut_state {α : Type} (v : Option α) (data : State → α → List Byte) (s : State) : (readOut v data s).1 = s := by
  cases v <;> rfl

/-- Every request keeps the control; the kinds that do more than read are carried out in RUNNING alone (R170). -/
theorem bodyKept_requestBody {k : RequestKind} (r : Request) {s : State}
    (hrun : k.duringScan = false → s.isRunning = true) : BodyKept s (requestBody k r s).1 := by
  have hsame : BodyKept s s := .refl s
  cases k with
  | readIdentity | readEntry | readArrivals | readQueue | readGenerator | readLane | readUnknownKinds | readSettings
  | readSupply | readStore | readClaims =>
    rw [requestBody, readOut_state]
    exact hsame
  | readEvents => exact withParams_state hsame fun _ _ => (steady_clearEvents s r.port).bodyKept
  | readResetCause => exact withParams_state hsame fun _ _ => (steady_clearCauses s r.port).bodyKept
  | setAlertMask => exact withParams_state hsame fun m _ => (steady_setMask s r.port m).bodyKept
  | clearLane => exact withParams_state hsame fun b _ => (jobWork_setLane s b _).steady.bodyKept
  | clearUnknownKinds => exact withParams_state hsame fun _ _ => Steady.bodyKept ⟨rfl, fun _ => rfl, fun _ _ h => h⟩
  | restart => exact withParams_state hsame fun _ _ => hsame
  | plan | unplan | unblock | setOffset | clearSilence =>
    exact withParams_state hsame fun _ _ => checked_state hsame fun _ => (jobWork_setEntry s _ _).steady.bodyKept
  | withdraw =>
    exact withParams_state hsame fun d _ => checked_state hsame fun _ => (steady_withdraw s d).bodyKept
  | forgetArrival =>
    exact withParams_state hsame fun n _ => checked_state hsame fun _ => (steady_unlist s n).bodyKept
  | activate =>
    exact withParams_state hsame fun d _ => checked_state hsame fun _ =>
      ((jobWork_appendJob s d _ _).trans (jobWork_proceed _ _)).steady.bodyKept
  | cancel =>
    refine withParams_state hsame fun d _ => ?_
    cases s.jobOf d with
    | none => exact checked_state hsame fun _ => hsame
    | some j => exact checked_state hsame fun _ => (steady_cancelJob s j).bodyKept
  | trace =>
    refine withParams_state hsame fun v _ => ?_
    cases s.freeGen with
    | none => exact checked_state hsame fun _ => hsame
    | some g => exact checked_state hsame fun _ => (jobWork_setGen s g _).steady.bodyKept
  | untrace =>
    refine withParams_state hsame fun d _ => ?_
    cases s.genOn d with
    | none => exact checked_state hsame fun _ => hsame
    | some g => exact checked_state hsame fun _ => (jobWork_detachAndOffer s _).steady.bodyKept
  | claim => exact withParams_state hsame fun d _ => withField_state hsame fun f => bodyKept_claimDrop s f d
  | renew =>
    refine withParams_state hsame fun d _ => withField_state hsame fun f => ?_
    split
    next hheld => exact (steady_grantClaim hheld).bodyKept
    next => exact hsame
  | release =>
    refine withParams_state hsame fun d _ => withField_state hsame fun f => ?_
    split
    · exact (steady_releaseClaim s f d).bodyKept
    · exact hsame
  | revoke =>
    refine withParams_state hsame fun d _ => ?_
    cases s.claim d with
    | none => exact hsame
    | some c => exact (steady_revokeClaim s c.holder d).bodyKept
  | commit =>
    exact withParams_state hsame fun d _ => checked_state hsame fun hpass =>
      bodyKept_beginWrite (t := s.takeSeq) (.slot d (.filled (s.snapshot d))) rfl (marks_of_writeChecks hpass)
  | releaseSlot =>
    exact withParams_state hsame fun d _ => checked_state hsame fun hpass =>
      bodyKept_beginWrite (t := s.takeSeq) (.slot d (.empty s.nextSeq)) rfl (marks_of_writeChecks hpass)
  | saveSettings =>
    exact withParams_state hsame fun estate _ => checked_state hsame fun hpass =>
      bodyKept_beginWrite (t := { s with estateId := estate.getD s.estateId, unsaved := false })
        (.header s.settings (estate.getD s.estateId)) rfl (marks_of_writeChecks (pre := [s.writeModeCheck]) hpass)
  | setMode =>
    refine withParams_state hsame fun m _ => ?_
    split
    · exact hsame
    · exact checked_state hsame fun _ => bodyKept_changeMode (hrun rfl) m
  | setSetting => exact withParams_state hsame fun st _ => bodyKept_takeSettings (hrun rfl) st

/-- An answer goes to a port that was READY, so to none that waits for a held RESTART (R172, R174). -/
theorem kept_respond {s t : State} {r : Request} {a : Answer} (kind : Byte) (h : BodyKept s t)
    (htake : s.takesFrame r.port r.inTime = true) : ControlKept s (t.respond r kind a) := by
  obtain ⟨⟨hpending, hmarks, hheader, hlimit, hmode, hrestart, hclaims⟩, hwaits⟩ := h
  refine ⟨hpending, hmarks, hheader, hlimit, hmode, fun hs hheld => ?_, hclaims⟩
  have hready : (s.port r.port).answer = .ready := by
    simp only [State.takesFrame, Bool.and_eq_true, decide_eq_true_eq] at htake
    exact htake.1.2
  change t.restart.isSome = true at hheld
  rcases hwaits with hsame | hnone
  · have hport : r.port ≠ .uplink := by
      intro hup
      rw [hup, (hs (hsame ▸ hheld)).2.1] at hready
      cases hready
    obtain ⟨h1, h2, h3⟩ := hrestart hs hheld
    exact ⟨h1, by rw [State.respond_port_ne _ _ _ _ _ hport, h2], h3⟩
  · rw [hnone] at hheld
    cases hheld

theorem kept_takeRequest (k : RequestKind) (r : Request) (s : State) :
    ControlKept s (s.takeRequest k r (requestBody k r)) := by
  unfold State.takeRequest
  split
  · exact .refl s
  next htake =>
    have htake : s.takesFrame r.port r.inTime = true := by simpa using htake
    split
    · exact kept_respond _ (.refl s) htake
    next hscan =>
      split
      · exact kept_respond _ (.refl s) htake
      · refine kept_respond _ (bodyKept_requestBody r fun hkind => ?_) htake
        simpa [hkind] using hscan

theorem kept_restartNow (s : State) (p : Port) (tag : Byte) : ControlKept s (s.restartNow p tag) :=
  (steady_setPort s p { s.port p with sent := (s.port p).sent ++ [⟨tag, RequestKind.restart.code, .ok, []⟩] }
    rfl).kept.trans (kept_takeReset _ _)

/-- A RESTART held for a write waits on the Uplink, the one port that may send it (R142, R172). -/
theorem kept_holdRestart {s : State} {r : Request} {w : Write} (htaken : s.restartTaken r = true)
    (hwriting : s.controller = .writing w) : ControlKept s (s.holdRestart r) := by
  simp only [State.restartTaken, Bool.and_eq_true] at htaken
  obtain ⟨⟨⟨-, hrun⟩, hrole⟩, -⟩ := htaken
  have hport : r.port = .uplink := by simpa [RequestKind.permits, RequestKind.role] using hrole
  refine ⟨rfl, fun _ => le_rfl, le_rfl, id, id, fun _ _ => ⟨hrun, ?_, ?_⟩, id⟩
  · rw [← hport]
    exact congrArg PortRecord.answer (State.setPort_port_same s r.port _)
  · change s.controller.isWriting = true
    rw [hwriting]
    rfl

/-- Every request answers a next state and keeps the control. -/
theorem kept_request {c : Instr} {k : RequestKind} {r : Request} (s : State) (hreq : request? c = some (k, r)) :
    ∃ t, exec c s = .next t ∧ ControlKept s t := by
  have hplain := kept_takeRequest k r s
  by_cases hset : k = .setSetting ∧ s.resetFollows r = true
  · obtain ⟨rfl, hreset⟩ := hset
    cases c with
    | setSetting q =>
      cases hreq
      refine ⟨_, rfl, ?_⟩
      rw [if_pos hreset]
      exact hplain.trans ((kept_sendOut _ _).trans (kept_takeReset _ _))
    | _ => cases hreq
  · by_cases hrestart : k = .restart ∧ s.restartTaken r = true
    · obtain ⟨rfl, htaken⟩ := hrestart
      cases c with
      | restart q =>
        cases hreq
        refine ⟨_, rfl, ?_⟩
        rw [if_pos htaken]
        split
        next w hwriting => exact kept_holdRestart htaken hwriting
        next => exact kept_restartNow s _ _
      | _ => cases hreq
    · refine ⟨_, exec_request hreq (fun hk => ?_) (fun hk => ?_), hplain⟩
      · simpa [hk] using hset
      · simpa [hk] using hrestart

/-! Time, store, scan and supply -/

theorem kept_completeWrite (s : State) (w : Write) (hidle : s.restart = none) : ControlKept s (s.completeWrite w) := by
  have hmarks : MarksStand s (s.completeWrite w) := by
    cases w with
    | slot d body =>
      refine ⟨fun e => ?_, rfl⟩
      change (((s.setSlot d ((s.slot d).written body.bytes)).setImage d body.image).slot e).marks = _
      rw [State.setImage_slot, State.setSlot_slot]
      split
      next hde => rw [← hde]; rfl
      next => rfl
    | header st n => exact ⟨fun _ => rfl, rfl⟩
  have hrestart : (s.completeWrite w).restart = none := by cases w <;> exact hidle
  refine ⟨?_, fun d => (hmarks.1 d).ge, hmarks.2.ge, hmarks.limit, ?_, fun _ hheld => ?_, ?_⟩
  · cases w <;> rfl
  · cases w <;> exact id
  · rw [hrestart] at hheld
    cases hheld
  · cases w <;> exact id

/-- A completed write keeps the control, and a RESTART held for it is carried out (R151, R172). -/
theorem kept_storeWriteComplete (s : State) : ControlKept s s.storeWriteComplete := by
  unfold State.storeWriteComplete
  split
  next w hwriting =>
    dsimp only
    split
    next tag hheld =>
      have hdropped : ControlKept s { s with restart := none } :=
        ⟨rfl, fun _ => le_rfl, le_rfl, id, id, fun _ h => (by cases h), id⟩
      have hsame : (s.completeWrite w).restartNow .uplink tag =
          (({ s with restart := none } : State).completeWrite w).restartNow .uplink tag := by
        cases w <;> rfl
      rw [hsame]
      exact hdropped.trans ((kept_completeWrite _ w rfl).trans (kept_restartNow _ _ _))
    next hnone => exact kept_completeWrite s w hnone
  next => exact .refl s

/-- The reading of the header changes settings, images and the start-up state, which stays SCANNING (R157). -/
theorem readHeader_eq (s : State) : ∃ u : State, u = { s with
      startup := .scanning true, settings := u.settings, estateId := u.estateId, headerImage := u.headerImage
      unsaved := u.unsaved } ∧ (s.readHeader = u ∨ s.readHeader = u.raise .storeSuspect) := by
  unfold State.readHeader
  obtain ⟨img, st, n⟩ := s.headerFound
  dsimp only
  split
  · exact ⟨_, rfl, .inr rfl⟩
  · exact ⟨_, rfl, .inl rfl⟩

/-- A step of the start-up that leaves the mode, the holds, the marks and the claims. -/
theorem kept_scanning {s t : State} {h h' : Bool} (hscan : s.startup = .scanning h) (hpending : t.pending = s.pending)
    (hmarks : MarksStand s t) (hstartup : t.startup = .scanning h') (hmode : t.mode = s.mode)
    (hmonitor : t.monitor = s.monitor) (hresume : t.resume = s.resume) (hframe : t.frame = s.frame)
    (hpower : t.powerOnHold = s.powerOnHold) (hsupply : t.supplyHold = s.supplyHold) (hpin : t.pinHold = s.pinHold)
    (hrestart : t.restart = s.restart) (hclaims : t.claims = s.claims) : ControlKept s t where
  pending := hpending
  marks d := (hmarks.1 d).ge
  headerMarks := hmarks.2.ge
  limit := hmarks.limit
  mode hs := by
    have hidle : t.isRunning = s.isRunning := by simp [State.isRunning, hscan, hstartup]
    obtain ⟨h1, h2, h3, h4, h5⟩ := hs
    refine ⟨by rw [hmode, hmonitor, h1], by rw [hmode, hresume]; exact h2, by rw [hidle, hmode]; exact h3,
      by rw [hidle, hframe]; exact h4, fun _ => ?_⟩
    obtain ⟨hp, hs, hn⟩ := h5 (by simp [hscan])
    exact ⟨hpower.trans hp, hsupply.trans hs, hpin.trans hn⟩
  restart hs hheld := by
    rw [hrestart] at hheld
    have := (hs hheld).1
    simp [State.isRunning, hscan] at this
  claims := claimInv_of_holds fun f d => by rw [holds_of_claims hclaims]; exact id

theorem kept_readHeader {s : State} {h : Bool} (hscan : s.startup = .scanning h) : ControlKept s s.readHeader := by
  obtain ⟨u, hu, hread⟩ := readHeader_eq s
  have hkept : ControlKept s u := by
    refine kept_scanning (h' := true) hscan ?_ (marksStand_of_store ?_ ?_) ?_ ?_ ?_ ?_ ?_ ?_ ?_ ?_ ?_ ?_ <;> rw [hu]
  rcases hread with hr | hr <;> rw [hr]
  · exact hkept
  · exact hkept.trans (steady_raise _ _).kept

theorem readHeader_startup (s : State) : s.readHeader.startup = .scanning true := by
  obtain ⟨u, hu, hread⟩ := readHeader_eq s
  have hstart : u.startup = .scanning true := by rw [hu]
  rcases hread with hr | hr <;> rw [hr]
  · exact hstart
  · exact hstart

/-- The reading of the slots changes images, entries, the sequence number and the controller (R158 to R160). -/
theorem readSlots_eq (s : State) : ∃ u : State, u = { s with
      images := u.images, roster := u.roster, nextSeq := u.nextSeq, controller := .idle } ∧
      (s.readSlots = u ∨ s.readSlots = u.raise .storeSuspect) := by
  unfold State.readSlots
  dsimp only
  split
  · exact ⟨_, by simp only, .inr rfl⟩
  · exact ⟨_, by simp only, .inl rfl⟩

/-- The part as the end of the scan opens it, before its open calls go out (R171). -/
def State.opened (s : State) : State :=
  { s with
    startup := .running, mode := s.settings.startMode.mode, resume := s.settings.startMode
    frame := some ⟨s.settings.stepWidth, 1⟩, baseTick := 0 }

theorem finishScan_eq (headerRead : Bool) (s : State) :
    s.finishScan headerRead =
      ((((if headerRead then s else s.readHeader).readSlots.opened.dueOpenCalls.raise .started).proceedAll
        ).superviseSupply) := rfl

theorem kept_readSlots {s : State} {h : Bool} (hscan : s.startup = .scanning h) : ControlKept s s.readSlots := by
  obtain ⟨u, hu, hread⟩ := readSlots_eq s
  have hkept : ControlKept s u := by
    refine kept_scanning (h' := h) hscan ?_ (marksStand_of_store ?_ ?_) ?_ ?_ ?_ ?_ ?_ ?_ ?_ ?_ ?_ ?_ <;> rw [hu]
    exact hscan
  rcases hread with hr | hr <;> rw [hr]
  · exact hkept
  · exact hkept.trans (steady_raise _ _).kept

theorem readSlots_startup (s : State) : s.readSlots.startup = s.startup := by
  obtain ⟨u, hu, hread⟩ := readSlots_eq s
  have hstart : u.startup = s.startup := by rw [hu]
  rcases hread with hr | hr <;> rw [hr]
  · exact hstart
  · exact hstart

theorem kept_opened {s : State} {h : Bool} (hscan : s.startup = .scanning h) : ControlKept s s.opened := by
  refine ⟨rfl, fun _ => le_rfl, le_rfl, id, fun hs => ?_, fun hs hheld => ?_, id⟩
  · obtain ⟨h1, -, h3, -, h5⟩ := hs
    have hsurvey : s.mode = .survey := h3 (by simp [State.isRunning, hscan])
    have hok : s.monitor ≠ .low := fun hlow => by simp [h1.mpr hlow] at hsurvey
    have hstart : s.settings.startMode.mode ≠ .hold := by cases s.settings.startMode <;> decide
    refine ⟨⟨fun hm => absurd hm hstart, fun hm => absurd hm hok⟩, fun _ => rfl, fun hidle => ?_, rfl,
      fun _ => h5 (by simp [hscan])⟩
    simp [State.isRunning, State.opened] at hidle
  · have := (hs hheld).1
    simp [State.isRunning, hscan] at this

theorem kept_finishScan {s : State} {h : Bool} (hscan : s.startup = .scanning h) : ControlKept s (s.finishScan h) := by
  have hheader : ControlKept s (if h then s else s.readHeader) := by
    cases h with
    | true => exact .refl s
    | false => exact kept_readHeader hscan
  obtain ⟨h', hscan'⟩ : ∃ h', (if h then s else s.readHeader).startup = .scanning h' := by
    cases h with
    | true => exact ⟨_, hscan⟩
    | false => exact ⟨_, readHeader_startup s⟩
  rw [finishScan_eq]
  generalize (if h then s else s.readHeader) = u at *
  have hslots : u.readSlots.startup = .scanning h' := by rw [readSlots_startup, hscan']
  have hopen : Steady u.readSlots.opened (u.readSlots.opened.dueOpenCalls.raise .started).proceedAll :=
    (jobWork_dueOpenCalls _).steady.trans ((steady_raise _ _).trans (jobWork_proceedAll _).steady)
  have hrun : (u.readSlots.opened.dueOpenCalls.raise .started).proceedAll.isRunning = true := by
    rw [hopen.isRunning_eq]
    rfl
  exact hheader.trans ((kept_readSlots hscan').trans
    ((kept_opened hslots).trans (hopen.kept.trans (kept_superviseSupply hrun))))

/-- The release of holds keeps the control: the part leaves HELD with no hold left (R167). -/
theorem kept_settleHolds (s : State) : ControlKept s s.settleHolds := by
  rw [settleHolds_eq]
  refine ⟨rfl, fun _ => le_rfl, le_rfl, id, fun hs => ?_, fun hs hr => ?_, id⟩
  · obtain ⟨h1, h2, h3, h4, h5⟩ := hs
    split
    next hfree =>
      obtain ⟨hup, hpower, hsupply, hpin⟩ := hfree
      have hidle : s.isRunning = false := by simp [State.isRunning, hup]
      rw [hidle] at h4
      exact ⟨h1, h2, fun _ => h3 hidle, h4, fun _ => ⟨hpower, hsupply, hpin⟩⟩
    next =>
      refine ⟨h1, h2, h3, h4, fun hup => ?_⟩
      obtain ⟨hp, hs, hn⟩ := h5 hup
      exact ⟨by simp [hp], by simp [hs], hn⟩
  · obtain ⟨h1, h2, h3⟩ := hs hr
    have hup : s.startup = .running := by simpa [State.isRunning] using h1
    refine ⟨?_, h2, h3⟩
    simp [State.isRunning, hup]

theorem kept_takeLevel (s : State) (v : Nat) : ControlKept s (s.takeLevel v) := by
  have hlevel : ControlKept s { s with supply := min 255 v } := ⟨rfl, fun _ => le_rfl, le_rfl, id, id, id, id⟩
  unfold State.takeLevel
  dsimp only
  split
  · exact hlevel.trans (kept_takeReset _ _)
  · split
    next hrun => exact hlevel.trans (kept_superviseSupply (by simp [State.isRunning, hrun]))
    next => exact hlevel.trans (kept_settleHolds _)
    next => exact hlevel

theorem kept_pinRelease (s : State) : ControlKept s { s with pinHold := false }.settleHolds := by
  refine ControlKept.trans (t := { s with pinHold := false }) ⟨rfl, fun _ => le_rfl, le_rfl, id, fun hs => ?_, id, id⟩
    (kept_settleHolds _)
  obtain ⟨h1, h2, h3, h4, h5⟩ := hs
  refine ⟨h1, h2, h3, h4, fun hup => ?_⟩
  obtain ⟨hp, hs, -⟩ := h5 hup
  exact ⟨hp, hs, rfl⟩

/-- The frame timer moves inside its twelve steps while the part runs (R109). -/
theorem kept_frame {s t : State} {f g : FrameTimer} (hframe : s.frame = some f) (ht : t = { s with frame := some g })
    (hstep : f.step ≤ 12 ∧ 1 ≤ f.step → 1 ≤ g.step ∧ g.step ≤ 12) : ControlKept s t := by
  subst ht
  refine ⟨rfl, fun _ => le_rfl, le_rfl, id, fun hs => ?_, id, id⟩
  obtain ⟨h1, h2, h3, h4, h5⟩ := hs
  refine ⟨h1, h2, h3, ?_, h5⟩
  rw [hframe] at h4
  simp only [frameFits, Bool.and_eq_true, decide_eq_true_eq] at h4 ⊢
  exact ⟨⟨h4.1.1, (hstep ⟨h4.2, h4.1.2⟩).1⟩, (hstep ⟨h4.2, h4.1.2⟩).2⟩

theorem kept_frameMark (s : State) : ControlKept s s.frameMark := by
  unfold State.frameMark
  split
  next f hframe =>
    exact (kept_frame hframe rfl fun _ => ⟨le_rfl, (by decide : 1 ≤ 12)⟩).trans
      (JobWork.foldl (jobWork_branchMark _) _ _).steady.kept
  next => exact .refl s

theorem kept_traceStep (s : State) : ControlKept s s.traceStep := by
  unfold State.traceStep
  split
  next f hframe =>
    split
    next hlt => exact kept_frame hframe rfl fun _ => ⟨Nat.le_add_left 1 _, hlt⟩
    next => exact .refl s
  next => exact .refl s

theorem kept_timePasses (s : State) : ControlKept s s.timePasses := by
  unfold State.timePasses
  split
  next hscan => exact kept_readHeader hscan
  next =>
    have hwork : JobWork s { s with branches := Vector.ofFn fun b : Fin 4 => (s.branches[b]).pass } := by
      simp only [JobWork]
    exact hwork.steady.kept
  next => exact .refl s

/-! Every command -/

theorem steady_countBadFrame (s : State) (p : Port) : Steady s (s.countBadFrame p) := steady_setPort s p _ rfl

theorem steady_setIgnoring (s : State) (p : Port) (v : Bool) : Steady s (s.setIgnoring p v) := steady_setPort s p _ rfl

theorem kept_whileRunning {s : State} {act : State → State} (h : s.isRunning = true → ControlKept s (act s)) :
    ∃ t, s.whileRunning act = .next t ∧ ControlKept s t := by
  cases hrun : s.isRunning with
  | true => exact ⟨_, whileRunning_run act hrun, h hrun⟩
  | false => exact ⟨_, whileRunning_idle act hrun, .refl s⟩

/-- A frame that the port takes, and one it does not. -/
theorem kept_ite {s t : State} {p : Prop} [Decidable p] (h : p → ControlKept s t) : ControlKept s (if p then t else s) := by
  split
  next hp => exact h hp
  next => exact .refl s

/-- Every command answers a next state, and keeps the control. -/
theorem exec_kept (c : Instr) (s : State) : ∃ t, exec c s = .next t ∧ ControlKept s t := by
  cases hreq : request? c with
  | some kr => exact kept_request s hreq
  | none =>
    cases c with
    | unknownRequest kind r => exact ⟨_, rfl, kept_ite fun htake => kept_respond kind (.refl s) htake⟩
    | badFrame f => exact ⟨_, rfl, kept_ite fun _ => (steady_countBadFrame s _).kept⟩
    | frameLengthOver f =>
      exact ⟨_, rfl, kept_ite fun _ => ((steady_countBadFrame s _).trans (steady_setIgnoring _ _ _)).kept⟩
    | linkIdleTimeout f =>
      refine ⟨_, rfl, ?_⟩
      split
      · exact (steady_setIgnoring s _ _).kept
      · exact kept_ite fun _ => (steady_countBadFrame s _).kept
    | responseSent p => exact ⟨_, rfl, kept_sendOut s p⟩
    | hello b x | matchReply b x | rangeReply b x | presence b x | unknownKindBurst b _ x | badBurst b _ x =>
      exact ⟨_, rfl, (steady_receive s b x).kept⟩
    | closedLaneBurst b _ x => exact ⟨_, rfl, (steady_ignoreBurst s b x).kept⟩
    | openCallDue b => exact kept_whileRunning fun _ => (steady_openCallDue s b).kept
    | openCallEnd b => exact kept_whileRunning fun _ => (steady_openCallEnd s b).kept
    | matchListenEnd b => exact kept_whileRunning fun _ => (steady_matchListenEnd s b).kept
    | rangeListenTimeout b => exact kept_whileRunning fun _ => (steady_rangeListenTimeout s b).kept
    | rangeCounterOverflow b => exact kept_whileRunning fun _ => (jobWork_setBranch s b _).steady.kept
    | admitWaitExpiry b => exact kept_whileRunning fun _ => (steady_admitWaitExpiry s b).kept
    | frameMark => exact kept_whileRunning fun _ => kept_frameMark s
    | traceStep => exact kept_whileRunning fun _ => kept_traceStep s
    | waitTraceCountDone b =>
      exact kept_whileRunning fun _ => kept_ite fun _ => (jobWork_enterMatch s b).steady.kept
    | presenceTick => exact kept_whileRunning fun _ => (steady_presenceTick s).kept
    | silenceLimitReached d => exact kept_whileRunning fun _ => (steady_silenceIfDue s d).kept
    | minuteTick => exact kept_whileRunning fun _ => (steady_minuteTick s).kept
    | arrivalAgeOut b n => exact kept_whileRunning fun _ => (steady_setArrivals s b _).kept
    | claimLapse d =>
      refine kept_whileRunning (act := fun s => match s.leaseOut d with | some f => s.revokeClaim f d | none => s)
        fun _ => ?_
      cases s.leaseOut d with
      | some f => exact (steady_revokeClaim s f d).kept
      | none => exact .refl s
    | storeWriteComplete => exact kept_whileRunning fun _ => kept_storeWriteComplete s
    | startupScanEnd =>
      refine ⟨_, rfl, ?_⟩
      split
      next hscan => exact kept_finishScan hscan
      next => exact .refl s
    | supplyLevel v => exact ⟨_, rfl, kept_takeLevel s v⟩
    | pinAssert =>
      refine ⟨_, rfl, ?_⟩
      split
      · exact .refl s
      · exact kept_takeReset _ s
    | pinRelease => exact ⟨_, rfl, kept_pinRelease s⟩
    | _ => cases hreq

/-- Every step keeps the control, but that it takes the command from the queue. -/
theorem step_kept {s t : State} (h : step s = .next t) :
    ∃ u : State, ControlKept u t ∧ ∃ cs, u = { s with pending := cs } := by
  cases hpending : s.pending with
  | nil =>
    rw [step_nil s hpending] at h
    cases h
    exact ⟨s, kept_timePasses s, [], by rw [← hpending]⟩
  | cons c cs =>
    rw [step_cons s c cs hpending] at h
    obtain ⟨u, hu, hkept⟩ := exec_kept c { s with pending := cs }
    rw [hu] at h
    cases h
    exact ⟨_, hkept, cs, rfl⟩

/-- Settles O3. -/
theorem everyCommandAnswersANextState : Obligations.EveryCommandAnswersANextState := by
  intro c s
  obtain ⟨t, ht, hkept⟩ := exec_kept c s
  exact ⟨t, ht, hkept.pending⟩

/-- Settles O57: the laws of the modes, the held RESTART and the claims are part of `ControlKept`, and none of them reads
the command queue. -/
theorem stepKeepsModeRestartAndClaimLaws : Obligations.StepKeepsModeRestartAndClaimLaws := by
  refine ⟨fun s t hs hstep => ?_, fun s t hstep => ?_⟩
  · obtain ⟨u, hkept, cs, rfl⟩ := step_kept hstep
    exact hkept.mode hs
  · obtain ⟨u, hkept, cs, rfl⟩ := step_kept hstep
    exact ⟨hkept.restart, hkept.claims⟩

/-- Settles O58. -/
theorem commitMarksNeverDecrease : Obligations.CommitMarksNeverDecrease := by
  intro s t hstep
  obtain ⟨u, hkept, cs, rfl⟩ := step_kept hstep
  exact ⟨hkept.marks, hkept.headerMarks, hkept.limit⟩

end Sys2Proof.Machine

/-! PROOFS. The parameters of the requests as their bytes give them (12.2, R185), the shared checks one by one (R143), and
the requests on roster entries (R18 to R23, R130, R131). -/

namespace Sys2Proof.Machine

/-! Bytes (R184) -/

theorem byteOf_toNat {n : Nat} (h : n < 256) : (byteOf n).toNat = n := by
  rw [byteOf, BitVec.toNat_ofNat, Nat.mod_eq_of_lt h]

theorem word16_byteOf {n : Nat} (h : n < 65536) : word16 (byteOf (n / 256)) (byteOf n) = n := by
  simp only [word16, byteOf, BitVec.toNat_ofNat]
  omega

@[simp] theorem dropOf_byteOf (d : Drop) : dropOf (byteOf d.val) = some d := by
  have hval : (byteOf d.val).toNat = d.val := byteOf_toNat (by omega)
  simp [dropOf, hval]

theorem dropOf_eq_none {n : Byte} (h : 64 ≤ n.toNat) : dropOf n = none := by simp [dropOf, h]

@[simp] theorem parseBranch_byteOf (b : Branch) : parseBranch [byteOf b.val] = some b := by
  have hval : (byteOf b.val).toNat = b.val := byteOf_toNat (by omega)
  simp [parseBranch, branchOf, hval]

@[simp] theorem parseGen_byteOf (g : Gen) : parseGen [byteOf g.val] = some g := by
  have hval : (byteOf g.val).toNat = g.val := byteOf_toNat (by omega)
  simp [parseGen, genOf, hval]

@[simp] theorem parseStoreName_byteOf (d : Drop) : parseStoreName [byteOf d.val] = some (.slot d) := by
  simp [parseStoreName]

theorem parseStoreName_header : parseStoreName [0xFF] = some .header := by decide

theorem parsePlan_bytes {d : Drop} {plot provider : Nat} (hlow : 1 ≤ plot) (hhigh : plot ≤ 4095) (hone : 1 ≤ provider)
    (hseven : provider ≤ 7) : parsePlan [byteOf d.val, byteOf (plot / 256), byteOf plot, byteOf provider] =
      some ⟨d, plot, provider⟩ := by
  have hplot : word16 (byteOf (plot / 256)) (byteOf plot) = plot := word16_byteOf (by omega)
  have hprovider : (byteOf provider).toNat = provider := byteOf_toNat (by omega)
  simp [parsePlan, *]

theorem parsePlan_eq_none {d p1 p0 v : Byte}
    (h : 64 ≤ d.toNat ∨ (p1 = 0 ∧ p0 = 0) ∨ 16 ≤ p1.toNat ∨ v = 0 ∨ 8 ≤ v.toNat) : parsePlan [d, p1, p0, v] = none := by
  by_cases hd : 64 ≤ d.toNat
  · simp only [parsePlan, dropOf_eq_none hd]
  · have hrange : ¬(1 ≤ word16 p1 p0 ∧ word16 p1 p0 ≤ 4095 ∧ 1 ≤ v.toNat ∧ v.toNat ≤ 7) := by
      rcases h with h | ⟨rfl, rfl⟩ | h | rfl | h
      · exact absurd h hd
      · simp [word16]
      · simp only [word16]; omega
      · simp
      · omega
    simp only [parsePlan, if_neg hrange]
    split <;> rfl

@[simp] theorem sourceOf_byteOf (src : OffsetSource) : sourceOf (byteOf src.code) = some src := by cases src <;> decide

theorem sourceOf_eq_none {v : Byte} (h : 2 ≤ v.toNat) : sourceOf v = none := by
  have hzero : v ≠ 0 := by rintro rfl; simp at h
  have hone : v ≠ 1 := by rintro rfl; simp at h
  simp only [sourceOf, if_neg hzero, if_neg hone]

theorem parseOffset_bytes {d : Drop} {code : Nat} {src : OffsetSource} (h : code ≤ 127) :
    parseOffset [byteOf d.val, byteOf code, byteOf src.code] = some ⟨d, code, src⟩ := by
  have hcode : (byteOf code).toNat = code := byteOf_toNat (by omega)
  simp [parseOffset, hcode, h]

theorem parseOffset_eq_none {d c v : Byte} (h : 64 ≤ d.toNat ∨ 128 ≤ c.toNat ∨ 2 ≤ v.toNat) :
    parseOffset [d, c, v] = none := by
  rcases h with h | h | h
  · simp only [parseOffset, dropOf_eq_none h]
  · have hrange : ¬ c.toNat ≤ 127 := by omega
    simp only [parseOffset, if_neg hrange]
    split <;> rfl
  · simp only [parseOffset, sourceOf_eq_none h]
    cases dropOf d <;> rfl

/-! The shared checks (R143) -/

theorem failIf_of {p : Prop} [Decidable p] {st : Status} (h : p) : failIf (decide p) st = some st := by
  simp [failIf, h]

theorem failIf_of_not {p : Prop} [Decidable p] {st : Status} (h : ¬p) : failIf (decide p) st = none := by
  simp [failIf, h]

theorem claimCheck_of_mayAct {s : State} {p : Port} {d : Drop} (h : s.mayAct p d = true) : s.claimCheck p d = none := by
  unfold State.mayAct at h
  unfold State.claimCheck
  cases hfield : p.field with
  | none =>
    rw [hfield] at h
    simpa [failIf] using h
  | some f =>
    rw [hfield] at h
    simpa [failIf, State.holds] using h

theorem claimCheck_of_not_mayAct {s : State} {p : Port} {d : Drop} (h : s.mayAct p d = false) :
    s.claimCheck p d = some (if p = .uplink then .claimed else .notClaimed) := by
  unfold State.mayAct at h
  unfold State.claimCheck
  cases p with
  | uplink => simpa [Port.field, failIf, Option.isSome_iff_ne_none] using h
  | field1 | field2 => simpa [Port.field, failIf, State.holds] using h

theorem jobField_isSome {s : State} {d : Drop} : (s.jobField d).isSome = true ↔ s.jobOf d ≠ none := by
  simp [State.jobField, Option.isSome_iff_ne_none]

theorem jobCheck_eq_some {s : State} {d : Drop} {sts : List EntryState} (hstate : (s.entry d).state ∈ sts)
    (hjob : s.jobOf d ≠ none) : s.jobCheck d sts = some .jobPending :=
  failIf_of ⟨hstate, jobField_isSome.mpr hjob⟩

theorem jobCheck_of_state {s : State} {d : Drop} {sts : List EntryState} (hstate : (s.entry d).state ∉ sts) :
    s.jobCheck d sts = none :=
  failIf_of_not fun h => hstate h.1

theorem jobCheck_of_no_job {s : State} {d : Drop} {sts : List EntryState} (hjob : s.jobOf d = none) :
    s.jobCheck d sts = none :=
  failIf_of_not fun h => jobField_isSome.mp h.2 hjob

/-! Taken requests, by what the owning block answers -/

theorem exec_request_body {c : Instr} {k : RequestKind} {r : Request} {s t : State} {a : Answer}
    (hreq : request? c = some (k, r)) (hset : k ≠ .setSetting) (hrestart : k ≠ .restart) (htakes : s.Takes r)
    (hrole : k.permits r.port = true) (hbody : requestBody k r s = (t, a)) :
    exec c s = .next (t.respond r k.code a) := by
  rw [exec_request_taken hreq hset hrestart htakes hrole, hbody]

theorem permits_uplink (k : RequestKind) (h : k.role ≠ .fieldOnly) : k.permits .uplink = true := by
  unfold RequestKind.permits
  cases hrole : k.role with
  | everyone | uplinkOnly => rfl
  | fieldOnly => exact absurd hrole h

/-! Entry into a state (Table 1-4) -/

theorem enter_same {e : Entry} {st : EntryState} (h : e.state = st) : e.enter st = e := by
  unfold Entry.enter
  rw [if_pos h]

theorem enter_vacant {e : Entry} (h : e.state ≠ .vacant) : e.enter .vacant = .empty := by
  unfold Entry.enter
  rw [if_neg h]

theorem enter_active {e : Entry} (h : e.state ≠ .active) :
    e.enter .active = { e with state := .active, rejoinPending := false } := by
  unfold Entry.enter
  rw [if_neg h]

theorem enter_bound {e : Entry} (h : e.state ≠ .bound) : e.enter .bound = e.boundAgain := by
  unfold Entry.enter
  rw [if_neg h]
  rfl

theorem enter_blocked {e : Entry} (h : e.state ≠ .blocked) : e.enter .blocked = e.unbound .blocked := by
  unfold Entry.enter
  rw [if_neg h]
  exact unbindTo_eq_unbound e _

/-! PLAN and UNPLAN (R19, R20) -/

section
variable {s : State} {r : Request} {d : Drop}

theorem planBody_bytes {plot provider : Nat} (hport : r.port = .uplink)
    (hparams : r.params = [byteOf d.val, byteOf (plot / 256), byteOf plot, byteOf provider])
    (hlow : 1 ≤ plot) (hhigh : plot ≤ 4095) (hone : 1 ≤ provider) (hseven : provider ≤ 7) :
    requestBody .plan r s = checked s
      [s.claimCheck .uplink d, s.stateCheck d [.vacant, .planned], s.jobCheck d [.planned]]
      (s.setEntry d { (s.entry d).enter .planned with plot := plot, provider := provider }, .ok) := by
  simp only [requestBody, planBody, hparams, parsePlan_bytes hlow hhigh hone hseven, withParams_some, hport, State.plan]

theorem exec_plan {t : State} {a : Answer} (htakes : s.Takes r) (hport : r.port = .uplink)
    (hbody : requestBody .plan r s = (t, a)) : exec (.plan r) s = .next (t.respond r 0x0E a) :=
  exec_request_body (k := .plan) rfl (by decide) (by decide) htakes (by rw [hport]; rfl) hbody

theorem exec_unplan {t : State} {a : Answer} (htakes : s.Takes r) (hport : r.port = .uplink)
    (hbody : requestBody .unplan r s = (t, a)) : exec (.unplan r) s = .next (t.respond r 0x0F a) :=
  exec_request_body (k := .unplan) rfl (by decide) (by decide) htakes (by rw [hport]; rfl) hbody

theorem unplanBody_drop (hport : r.port = .uplink) (hparams : r.params = [byteOf d.val]) :
    requestBody .unplan r s = checked s
      [s.surveyCheck, s.claimCheck .uplink d, s.stateCheck d [.planned, .blocked], s.jobCheck d [.planned]]
      (s.setEntry d ((s.entry d).enter .vacant), .ok) := by
  simp only [requestBody, unplanBody, hparams, parseDrop_byteOf, withParams_some, hport]

end

/-- Settles O11: the checks of R18 one after the other, each a case of the statement. -/
theorem planAndUnplan : Obligations.PlanAndUnplan := by
  refine ⟨fun s r d plot provider htakes hport hparams hlow hhigh hone hseven => ?plan,
    fun s r d p1 p0 v htakes hport hparams hrange => ?planRange, fun s r d htakes hport hparams => ?unplan,
    fun s r n htakes hport hparams hrange => ?unplanRange⟩
  case plan =>
    have hbody := planBody_bytes (s := s) (r := r) (d := d) hport hparams hlow hhigh hone hseven
    dsimp only
    split
    next hclaim => exact exec_plan htakes hport (hbody.trans (by rw [claimCheck_uplink_eq_some hclaim]; rfl))
    next hclaim =>
    rw [claimCheck_uplink_eq_none (not_not.mp hclaim)] at hbody
    split
    next hvacant =>
      refine exec_plan htakes hport (hbody.trans ?_)
      rw [stateCheck_eq_none (by simp [hvacant]), jobCheck_of_state (by simp [hvacant]), enter_planned (by simp [hvacant])]
      rfl
    next hvacant =>
    split
    next hplanned => exact exec_plan htakes hport (hbody.trans (by rw [stateCheck_eq_some (by simp [*])]; rfl))
    next hplanned =>
    have hstate := not_not.mp hplanned
    rw [stateCheck_eq_none (by simp [hstate])] at hbody
    split
    next hjob => exact exec_plan htakes hport (hbody.trans (by rw [jobCheck_eq_some (by simp [hstate]) hjob]; rfl))
    next hjob =>
      refine exec_plan htakes hport (hbody.trans ?_)
      rw [jobCheck_of_no_job (not_not.mp hjob), enter_same hstate]
      rfl
  case planRange =>
    refine exec_plan htakes hport ?_
    rw [requestBody, planBody, hparams, parsePlan_eq_none hrange, withParams_none]
    rfl
  case unplan =>
    have hbody := unplanBody_drop (s := s) hport hparams
    dsimp only
    split
    next hmode => exact exec_unplan htakes hport (hbody.trans (by rw [surveyCheck_eq_some hmode]; rfl))
    next hmode =>
    rw [surveyCheck_eq_none hmode] at hbody
    split
    next hclaim => exact exec_unplan htakes hport (hbody.trans (by rw [claimCheck_uplink_eq_some hclaim]; rfl))
    next hclaim =>
    rw [claimCheck_uplink_eq_none (not_not.mp hclaim)] at hbody
    split
    next hstate =>
      exact exec_unplan htakes hport (hbody.trans (by rw [stateCheck_eq_some (by simp [hstate])]; rfl))
    next hstate =>
    have hin : (s.entry d).state ∈ [EntryState.planned, .blocked] := by
      simp only [List.mem_cons, List.not_mem_nil, or_false]
      tauto
    have hvacant : (s.entry d).state ≠ .vacant := fun h => by simp [h] at hin
    rw [stateCheck_eq_none hin] at hbody
    split
    next hjob =>
      exact exec_unplan htakes hport (hbody.trans (by rw [jobCheck_eq_some (by simp [hjob.1]) hjob.2]; rfl))
    next hjob =>
      have hpass : s.jobCheck d [.planned] = none := failIf_of_not fun h =>
        hjob ⟨by simpa using h.1, jobField_isSome.mp h.2⟩
      exact exec_unplan htakes hport (hbody.trans (by rw [hpass, enter_vacant hvacant]; rfl))
  case unplanRange =>
    refine exec_unplan htakes hport ?_
    rw [requestBody_badDrop s hparams hrange (by simp)]
    rfl

/-! WITHDRAW (R21) -/

section
variable {s : State} {r : Request} {d : Drop}

theorem exec_withdraw {t : State} {a : Answer} (htakes : s.Takes r) (hport : r.port = .uplink)
    (hbody : requestBody .withdraw r s = (t, a)) : exec (.withdraw r) s = .next (t.respond r 0x10 a) :=
  exec_request_body (k := .withdraw) rfl (by decide) (by decide) htakes (by rw [hport]; rfl) hbody

theorem withdrawBody_drop (hport : r.port = .uplink) (hparams : r.params = [byteOf d.val]) :
    requestBody .withdraw r s = checked s
      [s.surveyCheck, s.claimCheck .uplink d, s.stateCheck d [.active, .silent, .bound], s.jobCheck d [.bound]]
      (s.withdraw d, .ok) := by
  simp only [requestBody, withdrawBody, hparams, parseDrop_byteOf, withParams_some, hport]

theorem withdraw_present {n : Serial} (hstate : (s.entry d).state = .active ∨ (s.entry d).state = .silent)
    (hserial : (s.entry d).serial = some n) :
    s.withdraw d = (s.sendCall d.branch (.withdraw n)).setEntry d
      { (s.entry d).unbound .planned with lastLevel := none } := by
  have hplanned : (s.entry d).state ≠ .planned := by rcases hstate with h | h <;> simp [h]
  simp only [State.withdraw, if_pos hstate, hserial, Option.getD_some, enter_planned hplanned]

theorem withdraw_bound (hstate : (s.entry d).state = .bound) :
    s.withdraw d = s.setEntry d { (s.entry d).unbound .planned with lastLevel := none } := by
  have hcall : ¬((s.entry d).state = .active ∨ (s.entry d).state = .silent) := by simp [hstate]
  have hplanned : (s.entry d).state ≠ .planned := by simp [hstate]
  simp only [State.withdraw, if_neg hcall, enter_planned hplanned]

end

/-- Settles O12: the checks of R18 in turn; the two withdrawals differ by the WITHDRAW call alone. -/
theorem withdrawUnbindsTerminal : Obligations.WithdrawUnbindsTerminal := by
  refine ⟨fun s r d htakes hport hparams => ?drop, fun s r n htakes hport hparams hrange => ?range⟩
  case range =>
    refine exec_withdraw htakes hport ?_
    rw [requestBody_badDrop s hparams hrange (by simp)]
    rfl
  have hbody := withdrawBody_drop (s := s) hport hparams
  dsimp only
  split
  next hmode => exact exec_withdraw htakes hport (hbody.trans (by rw [surveyCheck_eq_some hmode]; rfl))
  next hmode =>
  rw [surveyCheck_eq_none hmode] at hbody
  split
  next hclaim => exact exec_withdraw htakes hport (hbody.trans (by rw [claimCheck_uplink_eq_some hclaim]; rfl))
  next hclaim =>
  rw [claimCheck_uplink_eq_none (not_not.mp hclaim)] at hbody
  split
  next hstate =>
    intro n hserial
    have hin : (s.entry d).state ∈ [EntryState.active, .silent, .bound] := by rcases hstate with h | h <;> simp [h]
    have hout : (s.entry d).state ∉ [EntryState.bound] := by rcases hstate with h | h <;> simp [h]
    rw [stateCheck_eq_none hin, jobCheck_of_state hout, withdraw_present hstate hserial] at hbody
    exact exec_withdraw htakes hport hbody
  next hstate =>
  split
  next hbound =>
    have hout : (s.entry d).state ∉ [EntryState.active, .silent, .bound] := by
      simp only [List.mem_cons, List.not_mem_nil, or_false]
      tauto
    exact exec_withdraw htakes hport (hbody.trans (by rw [stateCheck_eq_some hout]; rfl))
  next hbound =>
  have hbound := not_not.mp hbound
  rw [stateCheck_eq_none (by simp [hbound])] at hbody
  split
  next hjob => exact exec_withdraw htakes hport (hbody.trans (by rw [jobCheck_eq_some (by simp [hbound]) hjob]; rfl))
  next hjob =>
    exact exec_withdraw htakes hport
      (hbody.trans (by rw [jobCheck_of_no_job (not_not.mp hjob), withdraw_bound hbound]; rfl))

/-! SET_OFFSET and CLEAR_SILENCE (R23, R130, R131) -/

section
variable {s : State} {r : Request} {d : Drop}

theorem exec_setOffset {t : State} {a : Answer} (htakes : s.Takes r) (hport : r.port = .uplink)
    (hbody : requestBody .setOffset r s = (t, a)) : exec (.setOffset r) s = .next (t.respond r 0x12 a) :=
  exec_request_body (k := .setOffset) rfl (by decide) (by decide) htakes (by rw [hport]; rfl) hbody

theorem exec_clearSilence {t : State} {a : Answer} (htakes : s.Takes r)
    (hbody : requestBody .clearSilence r s = (t, a)) : exec (.clearSilence r) s = .next (t.respond r 0x13 a) :=
  exec_request_body (k := .clearSilence) rfl (by decide) (by decide) htakes rfl hbody

theorem clearSilenceBody_drop (hparams : r.params = [byteOf d.val]) :
    requestBody .clearSilence r s =
      checked s [s.surveyCheck, s.claimCheck r.port d, s.stateCheck d [.silent]] (s.clearSilence d, .ok) := by
  simp only [requestBody, clearSilenceBody, hparams, parseDrop_byteOf, withParams_some]

theorem clearSilence_silent {p : PresenceRecord} (hstate : (s.entry d).state = .silent)
    (hpresence : (s.entry d).presence = some p) :
    s.clearSilence d = s.setEntry d { s.entry d with
      state := .active, rejoinPending := false
      presence := some ⟨0, 0, p.divisor, p.silenceLimit, false, false⟩ } := by
  rw [State.clearSilence, enter_active (by simp [hstate]), hpresence]
  rfl

end

/-- Settles O14: the checks of R18 and R130 in turn, the claim before the state (log entry 33). -/
theorem setOffsetAndClearSilence : Obligations.SetOffsetAndClearSilence := by
  refine ⟨fun s r d code src htakes hport hparams hcode => ?offset,
    fun s r d c v htakes hport hparams hrange => ?offsetRange, fun s r d htakes hparams => ?silence,
    fun s r n htakes hparams hrange => ?silenceRange⟩
  case offset =>
    have hbody : requestBody .setOffset r s = checked s [s.surveyCheck, s.claimCheck .uplink d]
        (s.setEntry d { s.entry d with workingOffset := code, offsetSource := src }, .ok) := by
      simp only [requestBody, setOffsetBody, hparams, parseOffset_bytes hcode, withParams_some, hport, State.setOffset]
    dsimp only
    split
    next hmode => exact exec_setOffset htakes hport (hbody.trans (by rw [surveyCheck_eq_some hmode]; rfl))
    next hmode =>
    rw [surveyCheck_eq_none hmode] at hbody
    split
    next hclaim => exact exec_setOffset htakes hport (hbody.trans (by rw [claimCheck_uplink_eq_some hclaim]; rfl))
    next hclaim =>
      exact exec_setOffset htakes hport (hbody.trans (by rw [claimCheck_uplink_eq_none (not_not.mp hclaim)]; rfl))
  case offsetRange =>
    refine exec_setOffset htakes hport ?_
    rw [requestBody, setOffsetBody, hparams, parseOffset_eq_none hrange, withParams_none]
    rfl
  case silence =>
    have hbody := clearSilenceBody_drop (s := s) hparams
    dsimp only
    split
    next hmode => exact exec_clearSilence htakes (hbody.trans (by rw [surveyCheck_eq_some hmode]; rfl))
    next hmode =>
    rw [surveyCheck_eq_none hmode] at hbody
    split
    next hact => exact exec_clearSilence htakes (hbody.trans (by rw [claimCheck_of_not_mayAct hact]; rfl))
    next hact =>
    rw [claimCheck_of_mayAct (by simpa using hact)] at hbody
    split
    next hstate => exact exec_clearSilence htakes (hbody.trans (by rw [stateCheck_eq_some (by simp [hstate])]; rfl))
    next hstate =>
      intro p hpresence
      have hsilent := not_not.mp hstate
      rw [stateCheck_eq_none (by simp [hsilent]), clearSilence_silent hsilent hpresence] at hbody
      exact exec_clearSilence htakes hbody
  case silenceRange =>
    refine exec_clearSilence htakes ?_
    rw [requestBody_badDrop s hparams hrange (by simp)]
    rfl

end Sys2Proof.Machine

/-! PROOFS. Single bits of the part's sets (R134, R181, R184), numbers in bytes (R184), and the reads, the link events,
claims, lanes, arrivals and the open-call timer. -/

namespace Sys2Proof.Machine

/-! One bit of a set (R184) -/

section
variable {w : Nat}

theorem oneBit_eq_twoPow (i : Nat) : (1#w <<< i) = BitVec.twoPow w i := (BitVec.twoPow_eq w i).symm

theorem and_oneBit_ne_zero (x : BitVec w) {i : Nat} (hi : i < w) : x &&& (1#w <<< i) ≠ 0 ↔ x.getLsbD i = true := by
  have hbit : BitVec.twoPow w i ≠ 0#w := by
    intro h
    have := congrArg (·.getLsbD i) h
    simp [hi] at this
  rw [oneBit_eq_twoPow, BitVec.and_twoPow]
  cases x.getLsbD i <;> simp [hbit]

theorem or_oneBit_getLsbD (x : BitVec w) {i : Nat} (hi : i < w) (j : Nat) :
    (x ||| (1#w <<< i)).getLsbD j = (x.getLsbD j || decide (j = i)) := by
  rw [oneBit_eq_twoPow, BitVec.getLsbD_or, BitVec.getLsbD_twoPow]
  by_cases hij : j = i
  · simp [hij, hi]
  · simp [hij, Ne.symm hij]

theorem and_not_oneBit_getLsbD (x : BitVec w) (i : Nat) {j : Nat} (hj : j < w) :
    (x &&& ~~~(1#w <<< i)).getLsbD j = (x.getLsbD j && !decide (j = i)) := by
  rw [oneBit_eq_twoPow, BitVec.getLsbD_and, BitVec.getLsbD_not, BitVec.getLsbD_twoPow]
  by_cases hij : j = i
  · subst hij
    simp [hj]
  · simp [hij, Ne.symm hij, hj]

end

/-! Lapse marks (R134) -/

theorem lapsed_eq (s : State) (f : FieldPort) (d : Drop) : s.lapsed f d = (s.lapses[f.index]).getLsbD d.val := by
  rw [Bool.eq_iff_iff, ← and_oneBit_ne_zero _ d.isLt]
  exact decide_eq_true_iff

theorem clearLapse_lapsed (s : State) (f h : FieldPort) (d e : Drop) :
    (s.clearLapse f d).lapsed h e = (s.lapsed h e && !decide (h = f ∧ e = d)) := by
  rw [lapsed_eq, lapsed_eq]
  by_cases hport : h = f
  · subst hport
    have hset : ((s.clearLapse h d).lapses[h.index]) = (s.lapses[h.index]) &&& ~~~ markBit d := by
      simp [State.clearLapse]
    rw [hset, markBit, and_not_oneBit_getLsbD _ _ e.isLt]
    simp [Fin.ext_iff]
  · have hset : ((s.clearLapse f d).lapses[h.index]) = (s.lapses[h.index]) := by
      cases f <;> cases h <;> simp_all [State.clearLapse, FieldPort.index]
    rw [hset]
    simp [hport]

theorem setLapse_lapsed (s : State) (f h : FieldPort) (d e : Drop) :
    (s.setLapse f d).lapsed h e = (s.lapsed h e || decide (h = f ∧ e = d)) := by
  rw [lapsed_eq, lapsed_eq]
  by_cases hport : h = f
  · subst hport
    have hset : ((s.setLapse h d).lapses[h.index]) = (s.lapses[h.index]) ||| markBit d := by
      simp [State.setLapse]
    rw [hset, markBit, or_oneBit_getLsbD _ d.isLt]
    simp [Fin.ext_iff]
  · have hset : ((s.setLapse f d).lapses[h.index]) = (s.lapses[h.index]) := by
      cases f <;> cases h <;> simp_all [State.setLapse, FieldPort.index]
    rw [hset]
    simp [hport]

/-! Numbers in bytes, most significant first (R184) -/

theorem bytesValue_append (xs ys : List Byte) : bytesValue (xs ++ ys) = bytesValue xs * 256 ^ ys.length + bytesValue ys := by
  induction ys using List.reverseRecOn with
  | nil => simp [bytesValue]
  | append_singleton ys y ih =>
    have snoc (zs : List Byte) : bytesValue (zs ++ [y]) = bytesValue zs * 256 + y.toNat := by
      simp [bytesValue, List.foldl_append]
    rw [← List.append_assoc, snoc, snoc, ih, List.length_append, List.length_singleton, pow_succ]
    ring

theorem bytesValue_cons (b : Byte) (bs : List Byte) : bytesValue (b :: bs) = b.toNat * 256 ^ bs.length + bytesValue bs := by
  have h := bytesValue_append [b] bs
  simpa [bytesValue] using h

@[simp] theorem length_beBytes (k n : Nat) : (beBytes k n).length = k := by
  induction k with
  | zero => rfl
  | succ k ih => simp [beBytes, ih]

@[simp] theorem bytesValue_beBytes (k n : Nat) : bytesValue (beBytes k n) = n % 256 ^ k := by
  induction k with
  | zero => simp [beBytes, bytesValue, Nat.mod_one]
  | succ k ih =>
    rw [beBytes, bytesValue_cons, ih, length_beBytes, Nat.mod_pow_succ, byteOf, BitVec.toNat_ofNat]
    ring

theorem toNat_append_byte {w : Nat} (hi : BitVec w) (lo : Byte) : (hi ++ lo).toNat = hi.toNat * 256 + lo.toNat := by
  have hlo : lo.toNat < 2 ^ 8 := lo.isLt
  rw [BitVec.toNat_append, Nat.shiftLeft_eq, Nat.mul_comm, ← Nat.two_pow_add_eq_or_of_lt hlo]

theorem byteOf_congr {m n : Nat} (h : m % 256 = n % 256) : byteOf m = byteOf n := by
  apply BitVec.eq_of_toNat_eq
  simpa [byteOf] using h

theorem byteOf_toNat_self (b : Byte) : byteOf b.toNat = b := by simp [byteOf]

theorem beBytes_append_bytes (hi lo : Byte) : beBytes 2 (hi ++ lo).toNat = [hi, lo] := by
  have hbyte : lo.toNat < 256 := lo.isLt
  have htop : hi.toNat < 256 := hi.isLt
  have hhi : byteOf ((hi ++ lo).toNat / 256 ^ 1) = hi := by
    rw [← byteOf_toNat_self hi]
    apply byteOf_congr
    rw [byteOf_toNat_self, toNat_append_byte]
    omega
  have hlo : byteOf ((hi ++ lo).toNat / 256 ^ 0) = lo := by
    rw [← byteOf_toNat_self lo]
    apply byteOf_congr
    rw [byteOf_toNat_self, toNat_append_byte]
    omega
  rw [beBytes, beBytes, beBytes, hhi, hlo]

theorem parseSerial_beBytes {n : Serial} (h : n ≠ 0) : parseSerial (beBytes 6 n.toNat) = some n := by
  have hvalue : BitVec.ofNat 48 (bytesValue (beBytes 6 n.toNat)) = n := by
    apply BitVec.eq_of_toNat_eq
    have hbound : n.toNat < 2 ^ 48 := n.isLt
    rw [bytesValue_beBytes, BitVec.toNat_ofNat]
    omega
  simp only [beBytes] at hvalue ⊢
  simp only [parseSerial, hvalue, if_neg h]

theorem parseSerial_zero : parseSerial [0, 0, 0, 0, 0, 0] = none := by decide

/-! Steps (log entries 1 and 2) -/

/-- Settles O1. -/
theorem stepRunsFrontCommand : Obligations.StepRunsFrontCommand := fun c cs s h => step_cons s c cs h

/-- What the scan takes from the header (R157), as the three images of it give it. -/
theorem headerFound_cases (s : State) :
    (s.header.marks = 0 ∧ s.headerFound = (.never, .factory, 0)) ∨
      (s.header.marks ≠ 0 ∧ ∃ st n, s.header.headerBody = some (st, n) ∧ s.headerFound = (.good, st, n)) ∨
        (s.header.marks ≠ 0 ∧ s.header.headerBody = none ∧ s.headerFound = (.suspect, .factory, 0)) := by
  unfold State.headerFound
  by_cases hmarks : s.header.marks = 0
  · exact .inl ⟨hmarks, if_pos hmarks⟩
  · rw [if_neg hmarks]
    cases hbody : s.header.headerBody with
    | none => exact .inr (.inr ⟨hmarks, rfl, rfl⟩)
    | some p => exact .inr (.inl ⟨hmarks, p.1, p.2, rfl, rfl⟩)

theorem readHeader_of_found {s : State} {img : HeaderImage} {st : Settings} {n : BitVec 32}
    (hfound : s.headerFound = (img, st, n)) :
    let given := if s.keepThresholds = true then st.keeping s.settings else st
    let u : State := { s with
      startup := .scanning true, settings := given, estateId := n, headerImage := img, unsaved := decide (given ≠ st) }
    s.readHeader = if img = .suspect then u.raise .storeSuspect else u := by
  unfold State.readHeader
  rw [hfound]

/-- Settles O2: with no command waiting the step is `timePasses`, one case for each start-up state. -/
theorem idleStepLetsTimePass : Obligations.IdleStepLetsTimePass := by
  intro s hpending
  refine ⟨s.timePasses, step_nil s hpending, ?_, ?idle, ?scan, ?runs⟩
  · unfold State.timePasses
    split
    · obtain ⟨u, hu, h | h⟩ := readHeader_eq s <;> rw [h, hu] <;> exact hpending
    · exact hpending
    · exact hpending
  case idle =>
    intro h
    unfold State.timePasses
    rcases h with h | h <;> rw [h]
  case scan =>
    intro h
    have hstep : s.timePasses = s.readHeader := by
      unfold State.timePasses
      rw [h]
    rw [hstep]
    rcases headerFound_cases s with ⟨hmarks, hfound⟩ | ⟨hmarks, st, n, hbody, hfound⟩ | ⟨hmarks, hbody, hfound⟩
    · exact ⟨_, _, _, fun _ => ⟨rfl, rfl, rfl⟩, fun h => absurd hmarks h, readHeader_of_found hfound⟩
    · refine ⟨_, _, _, fun h => absurd h hmarks, fun _ => ⟨fun st' n' h => ?_, fun h => ?_⟩, readHeader_of_found hfound⟩
      · rw [hbody] at h
        cases h
        exact ⟨rfl, rfl, rfl⟩
      · rw [hbody] at h
        cases h
    · refine ⟨_, _, _, fun h => absurd h hmarks, fun _ => ⟨fun st' n' h => ?_, fun _ => ⟨rfl, rfl, rfl⟩⟩,
        readHeader_of_found hfound⟩
      rw [hbody] at h
      cases h
  case runs =>
    intro h
    unfold State.timePasses
    rw [h]
    refine ⟨rfl, fun b => ?_⟩
    simp only [State.branch, Fin.getElem_fin, Vector.getElem_ofFn, BranchCtl.pass]
    rfl

/-! The eleven plain reads (11.6) -/

section
variable {s : State} {r : Request}

theorem exec_readIdentity (htake : s.takesFrame r.port r.inTime = true) :
    exec (.readIdentity r) s =
      .next ((requestBody .readIdentity r s).1.respond r 0x01 (requestBody .readIdentity r s).2) :=
  congrArg Host.Outcome.next (takeRequest_duringScan rfl htake rfl)

/-- A read that the role table permits answers OK with its read-out. -/
theorem exec_read {α : Type} {c : Instr} {k : RequestKind} {v : Option α} {x : α} {data : State → α → List Byte}
    (hreq : request? c = some (k, r)) (hset : k ≠ .setSetting) (hrestart : k ≠ .restart) (htakes : s.Takes r)
    (hrole : k.permits r.port = true) (hbody : requestBody k r s = readOut v data s) (hparams : v = some x) :
    exec c s = .next (s.respond r k.code ⟨.ok, data s x⟩) :=
  exec_request_body hreq hset hrestart htakes hrole (by rw [hbody, readOut, hparams, withParams_some])

end

/-- Settles O4: each read is `exec_read` with its own parameter and read-out. -/
theorem readsAnswerAndChangeNothing : Obligations.ReadsAnswerAndChangeNothing := by
  refine ⟨fun s r hup hready hheard htime => ⟨fun hparams => ?identity, fun hparams => ?identityBad⟩, fun s r htakes =>
    ⟨fun hparams => ?plain, fun d hparams => ?entry, fun b hparams => ?branch, fun g hparams => ?gen,
      fun hport => ⟨fun d hparams => ?slot, fun hparams => ?header⟩⟩⟩
  case identity =>
    rw [exec_readIdentity (takesFrame_of_ready hup hready hheard htime), requestBody, readOut, hparams]
    rfl
  case identityBad =>
    have hnone : parseNone r.params = none := by
      cases h : r.params with
      | nil => exact absurd h hparams
      | cons => rfl
    rw [exec_readIdentity (takesFrame_of_ready hup hready hheard htime), requestBody, readOut, hnone, withParams_none]
    rfl
  case plain =>
    have hnone : parseNone r.params = some () := by rw [hparams]; rfl
    exact ⟨exec_read (k := .readUnknownKinds) (data := fun t _ => t.unknownBytes) rfl (by decide) (by decide) htakes rfl
        rfl hnone,
      exec_read (k := .readSettings) (data := fun t _ => t.settingsBytes) rfl (by decide) (by decide) htakes rfl rfl hnone,
      exec_read (k := .readSupply) (data := fun t _ => t.supplyBytes) rfl (by decide) (by decide) htakes rfl rfl hnone,
      exec_read (k := .readClaims) (data := fun t _ => t.claimsBytes) rfl (by decide) (by decide) htakes rfl rfl hnone⟩
  case entry =>
    exact exec_read (k := .readEntry) rfl (by decide) (by decide) htakes rfl rfl (by rw [hparams, parseDrop_byteOf])
  case branch =>
    have hbranch : parseBranch r.params = some b := by rw [hparams, parseBranch_byteOf]
    exact ⟨exec_read (k := .readArrivals) rfl (by decide) (by decide) htakes rfl rfl hbranch,
      exec_read (k := .readQueue) rfl (by decide) (by decide) htakes rfl rfl hbranch,
      exec_read (k := .readLane) rfl (by decide) (by decide) htakes rfl rfl hbranch⟩
  case gen =>
    exact exec_read (k := .readGenerator) rfl (by decide) (by decide) htakes rfl rfl (by rw [hparams, parseGen_byteOf])
  case slot =>
    exact exec_read (k := .readStore) rfl (by decide) (by decide) htakes (by rw [hport]; rfl) rfl
      (by rw [hparams, parseStoreName_byteOf])
  case header =>
    exact exec_read (k := .readStore) rfl (by decide) (by decide) htakes (by rw [hport]; rfl) rfl
      (by rw [hparams, parseStoreName_header])

/-! The events of a port's link (R174 to R177) -/

theorem takesFrame_of_ignoring {s : State} {p : Port} {inTime : Bool} (h : (s.port p).ignoring = true) :
    s.takesFrame p inTime = false := by
  simp [State.takesFrame, h]

theorem takesFrame_of_shut {s : State} {p : Port} {inTime : Bool}
    (h : s.startup = .held ∨ (s.port p).answer ≠ .ready ∨ inTime = false) : s.takesFrame p inTime = false := by
  rcases h with h | h | h <;> simp [State.takesFrame, h]

/-- Settles O9: whether the port takes the frame decides each of the four events. -/
theorem linkEventsCountAndRelease : Obligations.LinkEventsCountAndRelease := by
  refine ⟨fun kind r s => ⟨fun hup hready hheard htime => ?unknown, fun hlost => ?unknownLost⟩, fun f s =>
    ⟨fun hup hready hheard htime => ?taken, fun hignoring => ?ignoring, fun hheard hshut => ?shut⟩,
    fun p s => ⟨fun resp hanswer => ?sent, fun hanswer => ?silent⟩⟩
  case unknown =>
    simp only [exec, execUnknownRequest, takesFrame_of_ready hup hready hheard htime, if_true]
    rfl
  case unknownLost => simp [exec, execUnknownRequest, not_takesFrame hlost]
  case taken =>
    have htake := takesFrame_of_ready hup hready hheard htime
    refine ⟨?_, ?_, ?_⟩
    · simp only [exec, execBadFrame, htake, if_true]
      rfl
    · simp only [exec, execLinkIdleTimeout]
      rw [if_neg (by simp [hheard]), if_pos htake]
      rfl
    · simp only [exec, execFrameLengthOver, htake, if_true, State.setIgnoring, State.countBadFrame, setPort_setPort,
        State.setPort_port_same]
      rfl
  case ignoring =>
    have htake := takesFrame_of_ignoring (inTime := f.inTime) hignoring
    exact ⟨by simp [exec, execLinkIdleTimeout, hignoring, State.setIgnoring], by simp [exec, execBadFrame, htake],
      by simp [exec, execFrameLengthOver, htake]⟩
  case shut =>
    have htake := takesFrame_of_shut hshut
    exact ⟨by simp [exec, execBadFrame, htake], by simp [exec, execLinkIdleTimeout, htake, hheard],
      by simp [exec, execFrameLengthOver, htake]⟩
  case sent => simp [exec, execResponseSent, State.sendOut, hanswer]
  case silent => rcases hanswer with h | h <;> simp [exec, execResponseSent, State.sendOut, h]

/-! Events, masks and alert lines (R181, R183) -/

/-- The events in the order of the table of R181. -/
def eventRow : Fin 16 → Event :=
  ![.jobDone, .jobFailed, .arrival, .arrivalsFull, .silence, .levelDrift, .moved, .laneFault, .unknownKind,
    .rejoinWaiting, .storeDone, .storeSuspect, .supplyLow, .supplyOk, .started, .claimEnded]

theorem eventRow_index (i : Fin 16) : (eventRow i).index = i.val := by
  revert i
  decide

theorem event_index_lt (e : Event) : e.index < 16 := by cases e <;> decide

theorem and_eventBit_ne_zero (x : BitVec 16) (e : Event) : x &&& e.bit ≠ 0 ↔ x.getLsbD e.index = true :=
  and_oneBit_ne_zero x (event_index_lt e)

theorem alertLine_iff (p : PortRecord) :
    p.alertLine = true ↔ ∃ e : Event, p.events &&& e.bit ≠ 0 ∧ p.mask &&& e.bit ≠ 0 := by
  simp only [and_eventBit_ne_zero]
  constructor
  · intro h
    by_contra hnone
    refine of_decide_eq_true h (BitVec.eq_of_getLsbD_eq fun i hi => ?_)
    have hevent := eventRow_index ⟨i, hi⟩
    have hzero : (0 : BitVec 16).getLsbD i = false := BitVec.getLsbD_zero
    rw [BitVec.getLsbD_and, hzero]
    by_contra hbit
    rw [Bool.not_eq_false, Bool.and_eq_true] at hbit
    exact hnone ⟨eventRow ⟨i, hi⟩, by rw [hevent]; exact hbit⟩
  · rintro ⟨e, hevent, hmask⟩
    refine decide_eq_true fun h => ?_
    have := congrArg (·.getLsbD e.index) h
    simp [hevent, hmask] at this

/-- Settles O10. -/
theorem eventsMasksAndAlertLines : Obligations.EventsMasksAndAlertLines := by
  refine ⟨fun s e _ => ⟨fun p => by rw [State.raise_port]; rfl, rfl⟩, fun s f => ⟨rfl, fun p hp => ?other⟩,
    fun s p => alertLine_iff (s.port p), fun s r hi lo htakes hparams => ?mask⟩
  case other => exact State.setPort_port_ne _ _ _ _ hp.symm
  case mask =>
    have hbody : requestBody .setAlertMask r s = (s.setMask r.port (hi ++ lo), ⟨.ok, [hi, lo]⟩) := by
      simp only [requestBody, hparams, parseEvents, withParams_some, beBytes_append_bytes]
    rw [exec_request_body (k := .setAlertMask) rfl (by decide) (by decide) htakes rfl hbody, State.setMask, setPort_respond]
    rfl

/-! CLAIM and RENEW (R135, R136) -/

section
variable {s : State} {r : Request} {d : Drop} {f : FieldPort}

theorem exec_claim {t : State} {a : Answer} (htakes : s.Takes r) (hport : r.port = f.port)
    (hparams : r.params = [byteOf d.val]) (hbody : s.claimDrop f d = (t, a)) :
    exec (.claim r) s = .next (t.respond r 0x18 a) := by
  have hrole : RequestKind.claim.permits r.port = true := by rw [hport]; cases f <;> rfl
  refine exec_request_body (k := .claim) rfl (by decide) (by decide) htakes hrole ?_
  simp only [requestBody, hparams, parseDrop_byteOf, withParams_some, withField, hport, field_port, hbody]

theorem exec_renew (htakes : s.Takes r) (hport : r.port = f.port) (hparams : r.params = [byteOf d.val]) :
    exec (.renew r) s = .next (if s.holds f d then (s.grantClaim f d).respond r 0x19 (s.leaseAnswer .ok)
      else s.respond r 0x19 (s.notHeld f d)) := by
  have hrole : RequestKind.renew.permits r.port = true := by rw [hport]; cases f <;> rfl
  have hbody : requestBody .renew r s =
      if s.holds f d then (s.grantClaim f d, s.leaseAnswer .ok) else (s, s.notHeld f d) := by
    simp only [requestBody, hparams, parseDrop_byteOf, withParams_some, withField, hport, field_port]
  by_cases hheld : s.holds f d = true
  · rw [if_pos hheld] at hbody ⊢
    exact exec_request_body (k := .renew) rfl (by decide) (by decide) htakes hrole hbody
  · rw [if_neg hheld] at hbody ⊢
    exact exec_request_body (k := .renew) rfl (by decide) (by decide) htakes hrole hbody

theorem holds_eq_false (h : ∀ c, s.claim d = some c → c.holder ≠ f) : s.holds f d = false := by
  rw [Bool.eq_false_iff]
  intro hheld
  obtain ⟨c, hclaim, hholder⟩ := holds_iff.mp hheld
  exact h c hclaim hholder

end

/-- Settles O23: the cases of R135 and R136, and for the lapse marks `clearLapse_lapsed`. -/
theorem claimAndRenewSetLease : Obligations.ClaimAndRenewSetLease := by
  refine ⟨fun s r d f htakes hport hparams => ⟨fun c hclaim hholder => ?other, fun c hclaim hholder => ?own,
    fun hfree hlimit => ?limit, fun hfree hroom => ?granted⟩, fun s r d f htakes hport hparams =>
      ⟨fun hheld => ?renewed, fun hnot hlapsed => ?lapsed, fun hnot hlapsed => ?notClaimed⟩⟩
  case other =>
    exact exec_claim htakes hport hparams (by simp only [State.claimDrop, hclaim, if_neg hholder]; rfl)
  case own =>
    exact exec_claim htakes hport hparams (by simp only [State.claimDrop, hclaim, if_pos hholder]; rfl)
  case limit =>
    have hfull : Config.claimLimit ≤ s.claimCount f := hlimit
    exact exec_claim htakes hport hparams (by simp only [State.claimDrop, hfree, if_pos hfull]; rfl)
  case granted =>
    have hnot : ¬Config.claimLimit ≤ s.claimCount f := Nat.not_le.mpr hroom
    refine ⟨_, exec_claim (d := d) htakes hport hparams (by simp only [State.claimDrop, hfree, if_neg hnot]; rfl), rfl,
      (clearLapse_lapsed _ _ _ _ _).trans (by simp), fun h e hne => (clearLapse_lapsed _ _ _ _ _).trans ?_⟩
    have hkeep : ¬(h = f ∧ e = d) := by tauto
    rw [decide_eq_false hkeep, Bool.not_false, Bool.and_true]
    rfl
  case renewed =>
    rw [exec_renew htakes hport hparams, if_pos (holds_iff.mpr hheld)]
    rfl
  case lapsed =>
    rw [exec_renew htakes hport hparams, holds_eq_false hnot, if_neg Bool.false_ne_true, State.notHeld, if_pos hlapsed]
    rfl
  case notClaimed =>
    rw [exec_renew htakes hport hparams, holds_eq_false hnot, if_neg Bool.false_ne_true, State.notHeld, hlapsed,
      if_neg Bool.false_ne_true]
    rfl

/-! Lanes, arrivals and the Unknown-Kind Table (R92, R95, R104) -/

theorem listed_iff {s : State} {n : Serial} : s.listed n = true ↔ ∃ b, ∃ a ∈ (s.arrivalsOf b).items, a.serial = n := by
  simp [State.listed, State.listedOn, allBranches]

/-- Settles O33. -/
theorem clearLaneAndForgetArrival : Obligations.ClearLaneAndForgetArrival := by
  refine ⟨fun s r h hscan hready hheard htime => ?starting, fun s r htakes => ⟨fun hport => ?role, fun hport hparams => ?zero⟩,
    fun s r b htakes hport hparams => ?clear, fun s r n htakes hport hn hparams => ?forget⟩
  case starting =>
    have htake := takesFrame_of_ready (by simp [hscan]) hready hheard htime
    exact exec_request_scanning (k := .forgetArrival) rfl hscan htake rfl
  case role =>
    exact exec_request_notPermitted (k := .forgetArrival) rfl htakes
      (by simp [RequestKind.permits, RequestKind.role, hport])
  case zero =>
    refine exec_request_refused (k := .forgetArrival) rfl htakes (by rw [hport]; rfl) ?_ (by decide)
    simp only [requestBody, hparams, parseSerial_zero, withParams_none]
  case clear =>
    refine exec_request_body (k := .clearLane) rfl (by decide) (by decide) htakes (by rw [hport]; rfl) ?_
    simp only [requestBody, hparams, parseBranch_byteOf, withParams_some]
    rfl
  case forget =>
    have hbody : requestBody .forgetArrival r s = checked s [failIf (!s.listed n) .notFound] (s.unlist n, .ok) := by
      simp only [requestBody, hparams, parseSerial_beBytes hn, withParams_some]
    have hrole : RequestKind.forgetArrival.permits r.port = true := by rw [hport]; rfl
    constructor
    · intro hlisted
      rw [listed_iff.mpr hlisted] at hbody
      exact ⟨_, exec_request_body (k := .forgetArrival) rfl (by decide) (by decide) htakes hrole hbody, rfl,
        fun b => unlist_arrivalsOf b⟩
    · intro hunlisted
      have hfalse : s.listed n = false := by
        rw [Bool.eq_false_iff]
        intro h
        obtain ⟨b, a, ha, hserial⟩ := listed_iff.mp h
        exact hunlisted b a ha hserial
      rw [hfalse] at hbody
      exact exec_request_body (k := .forgetArrival) rfl (by decide) (by decide) htakes hrole hbody

/-- Settles O34. -/
theorem unknownKindRequests : Obligations.UnknownKindRequests := by
  intro s r hparams hready hheard htime
  have hnone : parseNone r.params = some () := by rw [hparams]; rfl
  refine ⟨fun h hscan => ?scanning, fun hrun => ⟨fun hport => ?role, fun hport => ?clear, ?read⟩⟩
  case scanning =>
    have htake := takesFrame_of_ready (by simp [hscan]) hready hheard htime
    exact ⟨exec_request_scanning (k := .clearUnknownKinds) rfl hscan htake rfl,
      exec_request_scanning (k := .readUnknownKinds) rfl hscan htake rfl⟩
  all_goals have htakes : s.Takes r := ⟨⟨hrun, hready, hheard⟩, htime⟩
  case role =>
    exact exec_request_notPermitted (k := .clearUnknownKinds) rfl htakes
      (by simp [RequestKind.permits, RequestKind.role, hport])
  case clear =>
    have hbody : requestBody .clearUnknownKinds r s = (s.clearUnknown, .ok) := by
      simp only [requestBody, hnone, withParams_some]
    refine ⟨_, exec_request_body (k := .clearUnknownKinds) rfl (by decide) (by decide) htakes (by rw [hport]; rfl) hbody,
      rfl, rfl, fun i => ?_, fun b k => rfl⟩
    simp [State.clearUnknown]
  case read =>
    exact exec_read (k := .readUnknownKinds) (data := fun t _ => t.unknownBytes) rfl (by decide) (by decide) htakes rfl
      rfl hnone

/-! The open-call timer (R37, R38) -/

/-- Settles O45. -/
theorem openCallTimerAndListening : Obligations.OpenCallTimerAndListening := by
  intro s b hrun
  have hruns : s.isRunning = true := by simp [State.isRunning, hrun]
  have due : exec (.openCallDue b) s = .next (s.openCallDue b) := whileRunning_run _ hruns
  have ended : exec (.openCallEnd b) s = .next (s.openCallEnd b) := whileRunning_run _ hruns
  rw [due, ended]
  refine ⟨fun n htimer => ?_, fun htimer => ?_, fun hwindow => ?_, fun hwindow => ?_⟩
  · simp only [State.openCallDue, htimer]
  · simp only [State.openCallDue, htimer]
  · simp only [State.openCallEnd, if_pos hwindow, BranchCtl.endListening]
  · simp only [State.openCallEnd, if_neg hwindow]

/-! The state after reset -/

theorem reset_entry (d : Drop) : State.reset.entry d = .empty := by simp [State.entry, State.reset]

theorem reset_queue (b : Branch) : State.reset.queue b = [] := by
  simp [State.queue, State.branch, State.reset, BranchCtl.empty]

theorem reset_gen (g : Gen) : State.reset.gen g = .empty := by simp [State.gen, State.reset]

theorem reset_arrivalsOf (b : Branch) : State.reset.arrivalsOf b = ⟨[], 0⟩ := by simp [State.arrivalsOf, State.reset]

theorem reset_slot (d : Drop) : State.reset.slot d = .blank := by simp [State.slot, State.reset]

theorem reset_claim (d : Drop) : State.reset.claim d = none := by simp [State.claim, State.reset]

theorem reset_allArrivals : State.reset.allArrivals = [] := by simp [State.allArrivals, reset_arrivalsOf]

/-- Settles O59: after the reset the queues, lists and claims are empty, every entry is VACANT, and nothing is attached. -/
theorem lawsHoldAtReset : Obligations.LawsHoldAtReset := by
  refine ⟨⟨fun b => by simp [reset_queue], fun d => ?paired, fun d => by simp [reset_entry, Entry.empty],
    fun _ => reset_queue⟩, ⟨fun d => ?bears, fun d e _ => by simp [reset_entry, Entry.empty],
      fun b => by simp [reset_arrivalsOf], by simp [reset_allArrivals], by simp [reset_allArrivals],
      fun _ => reset_allArrivals⟩, fun d => ?presence, ⟨fun g h _ => by simp [reset_gen, Generator.empty], fun g => ?plays⟩,
    ⟨by decide, fun _ => rfl, fun _ => rfl, rfl, fun _ => ⟨rfl, rfl, rfl⟩⟩,
    ⟨fun d => by simp [reset_slot, StoreRecord.blank], by decide⟩, fun h => absurd h (by decide), ?claims⟩
  case paired =>
    have hjob : State.reset.jobOf d = none := by simp [State.jobOf, reset_queue]
    rw [reset_entry, hjob]
    rfl
  case bears =>
    rw [reset_entry]
    rfl
  case presence =>
    rw [reset_entry]
    rfl
  case plays =>
    rw [reset_gen]
    rfl
  case claims =>
    have hcount (f : FieldPort) : State.reset.claimCount f = 0 := by simp [State.claimCount, reset_claim]
    exact ⟨by simp [hcount], by simp [hcount]⟩

end Sys2Proof.Machine

/-! PROOFS. The four resets and RESTART (R152, R167 to R169, R172), supply levels and the reset pin (R162 to R167), and the
settings that the supply is compared with at once (R166). -/

namespace Sys2Proof.Machine

/-! Resets (R152, R167) -/

section
variable (s : State) (src : ResetSource)

theorem takeReset_slot (d : Drop) : (s.takeReset src).slot d = s.tearWrite.slot d := by
  obtain ⟨_, _, _, h⟩ := takeReset_eq src s
  rw [h]
  rfl

theorem takeReset_header : (s.takeReset src).header = s.tearWrite.header := by
  obtain ⟨_, _, _, h⟩ := takeReset_eq src s
  rw [h]
  rfl

theorem tearWrite_port (p : Port) : s.tearWrite.port p = s.port p := by rw [tearWrite_frame]; rfl

theorem tearWrite_lane (b : Branch) : s.tearWrite.lane b = s.lane b := by rw [tearWrite_frame]; rfl

theorem tearWrite_settings : s.tearWrite.settings = s.settings := by rw [tearWrite_frame]

theorem takeReset_port (p : Port) : (s.takeReset src).port p = (s.port p).reset src := by
  obtain ⟨_, _, _, h⟩ := takeReset_eq src s
  rw [h, ← tearWrite_port s p]
  simp [State.port, State.clearWork]

theorem takeReset_lane (b : Branch) : (s.takeReset src).lane b = (s.lane b).reset := by
  obtain ⟨_, _, _, h⟩ := takeReset_eq src s
  rw [h, ← tearWrite_lane s b]
  simp [State.lane, State.clearWork]

theorem takeReset_settings : (s.takeReset src).settings = s.settings.afterReset src := by
  obtain ⟨_, _, _, h⟩ := takeReset_eq src s
  rw [h, ← tearWrite_settings s]
  rfl

theorem takeReset_entry (d : Drop) : (s.takeReset src).entry d = .empty := by
  obtain ⟨_, _, _, h⟩ := takeReset_eq src s
  rw [h]
  simp [State.entry, State.clearWork]

theorem takeReset_roster : (s.takeReset src).roster = Vector.replicate 64 .empty := by
  obtain ⟨_, _, _, h⟩ := takeReset_eq src s
  rw [h]
  rfl

theorem takeReset_branch (b : Branch) : (s.takeReset src).branch b = .empty := by
  obtain ⟨_, _, _, h⟩ := takeReset_eq src s
  rw [h]
  simp [State.branch, State.clearWork]

theorem takeReset_arrivalsOf (b : Branch) : (s.takeReset src).arrivalsOf b = ⟨[], 0⟩ := by
  obtain ⟨_, _, _, h⟩ := takeReset_eq src s
  rw [h]
  simp [State.arrivalsOf, State.clearWork]

theorem takeReset_gen (g : Gen) : (s.takeReset src).gen g = .empty := by
  obtain ⟨_, _, _, h⟩ := takeReset_eq src s
  rw [h]
  simp [State.gen, State.clearWork]

theorem takeReset_lapsed (f : FieldPort) (d : Drop) : (s.takeReset src).lapsed f d = false := by
  obtain ⟨_, _, _, h⟩ := takeReset_eq src s
  rw [h]
  simp [State.lapsed, State.clearWork]

theorem takeReset_holds : ((s.takeReset src).startup = .held ∧ ¬(s.takeReset src).NoHolds) ∨
    ((s.takeReset src).startup = .scanning false ∧ (s.takeReset src).NoHolds) := by
  obtain ⟨power, supply, pin, h⟩ := takeReset_eq src s
  rw [h]
  by_cases hfree : power = false ∧ supply = false ∧ pin = false
  · exact .inr ⟨if_pos hfree, hfree⟩
  · exact .inl ⟨if_neg hfree, hfree⟩

end

/-- Settles O52: the cleared state is `clearWork`'s, the torn record `tearWrite`'s, and a part left HELD has a hold. -/
theorem resetEmptiesWorkingState : Obligations.ResetEmptiesWorkingState := by
  intro s src
  obtain ⟨cut, hheader, hheaderCut⟩ := tearWrite_header s
  obtain ⟨_, _, _, hframe⟩ := takeReset_eq src s
  refine ⟨fun d => ?drop, ?_, ?_, ?_, ?_, fun b => ?branch, ?unknown, ?overflow, fun g => takeReset_gen s src g, ?_, ?_, ?_,
    ?_, ?_, ?_, takeReset_restart src s, takeReset_lapsed s src, fun p => ?port, fun hsrc => ?supply, fun hsrc => ?other,
    takeReset_holds s src⟩
  case drop =>
    obtain ⟨torn, hslot, htorn⟩ := tearWrite_slot s d
    rw [takeReset_slot, hslot]
    exact ⟨takeReset_entry s src d, takeReset_claim src s d, rfl, rfl, rfl, htorn⟩
  case branch =>
    rw [takeReset_lane]
    exact ⟨takeReset_branch s src b, takeReset_arrivalsOf s src b, rfl, rfl, rfl, rfl, rfl⟩
  case port =>
    have halert : (s.takeReset src).alertLine p = ((s.port p).reset src).alertLine :=
      congrArg PortRecord.alertLine (takeReset_port s src p)
    rw [halert, takeReset_port]
    refine ⟨rfl, rfl, rfl, rfl, by simp [PortRecord.alertLine, PortRecord.reset], ?_⟩
    cases src <;> rfl
  case supply =>
    subst hsrc
    rw [takeReset_settings]
    exact ⟨rfl, rfl⟩
  case other =>
    rw [takeReset_settings]
    cases src with
    | supply => exact absurd rfl hsrc
    | powerOn | pin | command => exact ⟨rfl, rfl⟩
  case unknown =>
    intro i
    rw [hframe]
    simp [State.clearWork]
  case overflow => rw [hframe]; rfl
  · rw [takeReset_header, hheader]
  · rw [takeReset_header, hheader]
  · rw [takeReset_header, hheader]
  · rw [takeReset_header, hheader]
    exact hheaderCut
  all_goals rw [hframe]; rfl

/-! RESTART (R172) -/

theorem takeReset_command_free {s : State} (hfree : s.NoHolds) : (s.takeReset .command).startup = .scanning false := by
  obtain ⟨hpower, hsupply, hpin⟩ := hfree
  have hheld : ((s.tearWrite.clearWork .command).addHold .command).startup = .held := rfl
  have hholds : (s.tearWrite.clearWork .command).addHold .command =
      { s.tearWrite.clearWork .command with powerOnHold := false, supplyHold := false, pinHold := false } := by
    rw [tearWrite_frame]
    simp only [State.addHold, State.clearWork, hpower, hsupply, hpin]
  rw [State.takeReset, settleHolds_held hheld, hholds]
  simp

theorem tearWrite_idle {s : State} (hidle : s.controller = .idle) : s.tearWrite = s := by
  simp only [State.tearWrite, hidle]

theorem takeReset_store_idle {s : State} (src : ResetSource) (hidle : s.controller = .idle) :
    (s.takeReset src).slots = s.slots ∧ (s.takeReset src).header = s.header := by
  obtain ⟨_, _, _, h⟩ := takeReset_eq src s
  rw [h, tearWrite_idle hidle]
  exact ⟨rfl, rfl⟩

section
variable {s : State} {r : Request}

theorem restartTaken_of_takes (htakes : s.Takes r) (hport : r.port = .uplink) (hparams : r.params = []) :
    s.restartTaken r = true := by
  have hrole : RequestKind.restart.permits r.port = true := by rw [hport]; rfl
  simp [State.restartTaken, takesFrame_of_takes htakes, isRunning_of_takes htakes, hrole, hparams, parseNone]

theorem exec_restart_writing {w : Write} (htaken : s.restartTaken r = true) (hwriting : s.controller = .writing w) :
    exec (.restart r) s = .next (s.holdRestart r) := by
  simp only [exec, execRestart, htaken, if_true, hwriting]

theorem exec_restart_idle (htaken : s.restartTaken r = true) (hidle : s.controller = .idle) :
    exec (.restart r) s = .next (s.restartNow r.port r.tag) := by
  simp only [exec, execRestart, htaken, if_true, hidle]

end

/-- Settles O32. -/
theorem restartResetsOrWaitsForWrite : Obligations.RestartResetsOrWaitsForWrite := by
  intro s r htakes hport hparams
  have htaken := restartTaken_of_takes htakes hport hparams
  refine ⟨fun hidle hfree => ?now, fun w hwriting => ?held⟩
  case held =>
    rw [exec_restart_writing htaken hwriting]
    simp only [State.holdRestart, hport]
  case now =>
    rw [exec_restart_idle htaken hidle, hport]
    refine ⟨s.restartNow .uplink r.tag, rfl, ?_⟩
    unfold State.restartNow
    generalize hanswered : s.setPort .uplink { s.port .uplink with
      sent := (s.port .uplink).sent ++ [⟨r.tag, RequestKind.restart.code, .ok, []⟩] } = u
    have hcauses (p : Port) : (u.port p).causes = (s.port p).causes := by
      rw [← hanswered, State.setPort_port]
      split
      next h => rw [← h]
      next => rfl
    have hstore := takeReset_store_idle (s := u) .command (by rw [← hanswered]; exact hidle)
    refine ⟨takeReset_command_free (by rw [← hanswered]; exact hfree), ?_, ?_, fun p => ?_, ?_, ?_, takeReset_roster u _⟩
    · rw [takeReset_port, ← hanswered, State.setPort_port_same]
      rfl
    · rw [takeReset_port]
      rfl
    · rw [takeReset_port, ← hcauses]
      rfl
    · rw [hstore.1, ← hanswered]
      rfl
    · rw [hstore.2, ← hanswered]
      rfl

/-! Supply levels (R162 to R167) -/

/-- The state with a sensed level. -/
def State.sensed (s : State) (v : Nat) : State := { s with supply := v }

theorem takeLevel_eq {s : State} {v : Nat} (hv : v ≤ 255) : s.takeLevel v =
    if v < 90 ∧ s.powerOnHold = false then (s.sensed v).takeReset .powerOn
    else match s.startup with
      | .running => (s.sensed v).superviseSupply
      | .held => (s.sensed v).settleHolds
      | .scanning _ => s.sensed v := by
  have hlevel : min 255 v = v := by omega
  simp only [State.takeLevel, hlevel]
  rfl

section
variable {s : State} {v : Nat}

theorem takeLevel_powerOn (hv : v ≤ 255) (hlow : v < 90) (hfree : s.powerOnHold = false) :
    s.takeLevel v = (s.sensed v).takeReset .powerOn := by
  rw [takeLevel_eq hv, if_pos ⟨hlow, hfree⟩]

theorem takeLevel_running (hv : v ≤ 255) (hrun : s.startup = .running) (h : 90 ≤ v) :
    s.takeLevel v = (s.sensed v).superviseSupply := by
  rw [takeLevel_eq hv, if_neg (fun hlow => absurd hlow.1 (Nat.not_lt.mpr h)), hrun]

theorem takeLevel_held (hv : v ≤ 255) (hheld : s.startup = .held) (h : 90 ≤ v ∨ s.powerOnHold = true) :
    s.takeLevel v = (s.sensed v).settleHolds := by
  have hno : ¬(v < 90 ∧ s.powerOnHold = false) := by
    rintro ⟨hlow, hfree⟩
    rcases h with h | h
    · omega
    · rw [hfree] at h
      cases h
  rw [takeLevel_eq hv, if_neg hno, hheld]

theorem takeLevel_scanning {h : Bool} (hv : v ≤ 255) (hscan : s.startup = .scanning h) (hhigh : 90 ≤ v) :
    s.takeLevel v = s.sensed v := by
  rw [takeLevel_eq hv, if_neg (fun hlow => absurd hlow.1 (Nat.not_lt.mpr hhigh)), hscan]

end

/-! The comparison with the thresholds (R163 to R166) -/

section
variable {s : State}

theorem supervise_alarm_fall (hmode : s.settings.monitorMode = .alarm) (hmonitor : s.monitor = .ok)
    (h : s.supply < s.settings.alarm.threshold) : s.superviseSupply = s.enterHold := by
  simp only [State.superviseSupply, hmode, hmonitor, State.belowAlarm, decide_eq_true h, if_true]

theorem supervise_alarm_fine (hmode : s.settings.monitorMode = .alarm) (hmonitor : s.monitor = .ok)
    (h : s.settings.alarm.threshold ≤ s.supply) : s.superviseSupply = s := by
  simp only [State.superviseSupply, hmode, hmonitor, State.belowAlarm, decide_eq_false (Nat.not_lt.mpr h),
    Bool.false_eq_true, if_false]

theorem supervise_alarm_recovery (hmode : s.settings.monitorMode = .alarm) (hmonitor : s.monitor = .low)
    (h : s.settings.alarm.threshold + 2 ≤ s.supply) : s.superviseSupply = s.leaveHold := by
  have hhigh : s.belowRecovery = false := decide_eq_false (Nat.not_lt.mpr h)
  simp only [State.superviseSupply, hmode, hmonitor, hhigh, Bool.false_eq_true, if_false]

theorem supervise_alarm_low (hmode : s.settings.monitorMode = .alarm) (hmonitor : s.monitor = .low)
    (h : s.supply < s.settings.alarm.threshold + 2) : s.superviseSupply = s := by
  have hlow : s.belowRecovery = true := decide_eq_true h
  simp only [State.superviseSupply, hmode, hmonitor, hlow, if_true]

theorem supervise_reset_fall (hmode : s.settings.monitorMode = .reset) (h : s.supply < s.settings.alarm.threshold) :
    s.superviseSupply = s.takeReset .supply := by
  simp only [State.superviseSupply, hmode, State.belowAlarm, decide_eq_true h, if_true]

theorem supervise_reset_fine (hmode : s.settings.monitorMode = .reset) (hmonitor : s.monitor = .ok)
    (h : s.settings.alarm.threshold ≤ s.supply) : s.superviseSupply = s := by
  have hok : ¬(s.monitor = .low ∧ s.belowRecovery = false) := by simp [hmonitor]
  simp only [State.superviseSupply, hmode, State.belowAlarm, decide_eq_false (Nat.not_lt.mpr h), Bool.false_eq_true,
    if_false, if_neg hok]

end

theorem settleHolds_released {s : State} (hheld : s.startup = .held) (hhigh : 90 ≤ s.supply) :
    s.settleHolds = { s with
      powerOnHold := false, supplyHold := s.supplyHold && decide (s.supply < s.settings.alarm.threshold + 2)
      startup := if s.pinHold = false ∧ (s.supplyHold = false ∨ s.settings.alarm.threshold + 2 ≤ s.supply)
        then .scanning false else .held } := by
  have hpower : (s.powerOnHold && decide (s.supply < powerOnThreshold)) = false := by
    rw [decide_eq_false (p := s.supply < powerOnThreshold) (Nat.not_lt.mpr hhigh), Bool.and_false]
  have hsupply : (s.supplyHold && s.belowRecovery) = false ↔
      s.supplyHold = false ∨ s.settings.alarm.threshold + 2 ≤ s.supply := by
    rw [Bool.and_eq_false_iff, State.belowRecovery, decide_eq_false_iff_not, Nat.not_lt]
    rfl
  rw [settleHolds_held hheld, hpower]
  simp only [true_and, and_comm, hsupply]
  rfl

theorem settleHolds_still_held {s : State} (hheld : s.startup = .held) (hpower : s.powerOnHold = true)
    (hlow : s.supply < 90) (hsupply : s.supplyHold = false ∨ s.belowRecovery = true) : s.settleHolds = s := by
  have hstill : (s.powerOnHold && decide (s.supply < powerOnThreshold)) = s.powerOnHold := by
    rw [decide_eq_true (show s.supply < powerOnThreshold from hlow), Bool.and_true]
  have hkept : (s.supplyHold && s.belowRecovery) = s.supplyHold := by rcases hsupply with h | h <;> simp [h]
  rw [settleHolds_held hheld, hstill, hkept, hpower, if_neg (by simp), ← hpower, ← hheld]

/-- A pin reset holds the part until the pin is released (R167). -/
theorem takeReset_pin (s : State) : s.takeReset .pin = { s.takeReset .pin with startup := .held, pinHold := true } := by
  unfold State.takeReset
  rw [settleHolds_held rfl]
  simp [State.addHold]

/-- Settles O50: which of the three things a level does is `takeLevel_eq`; then each comparison is one lemma. -/
theorem supplyLevelsAndPin : Obligations.SupplyLevelsAndPin := by
  have level (s : State) (v : Nat) : exec (.supplyLevel v) s = .next (s.takeLevel v) := rfl
  refine ⟨fun s v hrun hv => ?running, fun s v hv => ⟨fun hheld => ?held, fun h hscan => ?scanning⟩, fun s => ?pin⟩
  case running =>
    simp only [level]
    refine ⟨fun hhigh hmode => ⟨fun hmonitor h => ?_, fun hmonitor h => ?_, fun hmonitor h => ?_, fun hmonitor h => ?_⟩,
      fun hhigh hmode h => ?_, fun hhigh hmode h hmonitor => ?_, fun hlow hfree => ?_⟩
    · rw [takeLevel_running hv hrun hhigh, supervise_alarm_fall (s := s.sensed v) hmode hmonitor h]
      rfl
    · rw [takeLevel_running hv hrun hhigh, supervise_alarm_fine (s := s.sensed v) hmode hmonitor h]
      rfl
    · rw [takeLevel_running hv hrun hhigh, supervise_alarm_recovery (s := s.sensed v) hmode hmonitor h]
      rfl
    · rw [takeLevel_running hv hrun hhigh, supervise_alarm_low (s := s.sensed v) hmode hmonitor h]
      rfl
    · rw [takeLevel_running hv hrun hhigh, supervise_reset_fall (s := s.sensed v) hmode h]
      rfl
    · rw [takeLevel_running hv hrun hhigh, supervise_reset_fine (s := s.sensed v) hmode hmonitor h]
      rfl
    · rw [takeLevel_powerOn hv hlow hfree.1]
      rfl
  case held =>
    simp only [level]
    refine ⟨fun hlow hfree => by rw [takeLevel_powerOn hv hlow hfree]; rfl, fun hlow hpower => ?_, fun hhigh => ?_⟩
    · have hrecovery : (s.sensed v).belowRecovery = true := by
        refine decide_eq_true (Nat.lt_of_lt_of_le hlow ?_)
        simp only [AlarmLevel.recovery, AlarmLevel.threshold]
        split <;> omega
      rw [takeLevel_held hv hheld (.inr hpower),
        settleHolds_still_held (s := s.sensed v) hheld hpower hlow (.inr hrecovery)]
      rfl
    · rw [takeLevel_held hv hheld (.inl hhigh), settleHolds_released (s := s.sensed v) hheld hhigh]
      rfl
  case scanning =>
    simp only [level]
    exact ⟨fun hhigh => by rw [takeLevel_scanning hv hscan hhigh]; rfl,
      fun hlow hfree => by rw [takeLevel_powerOn hv hlow hfree]; rfl⟩
  case pin =>
    refine ⟨fun hfree => ⟨s.takeReset .pin, ?_, rfl, ?_, ?_⟩, fun hheld hpower hsupply => ?_,
      fun hheld hpower hlow hsupply => ?_⟩
    · simp only [exec, execPinAssert, hfree, Bool.false_eq_true, if_false]
    · rw [takeReset_pin]
    · rw [takeReset_pin]
    · have hsettled : ({ s with pinHold := false } : State).settleHolds =
          { s with pinHold := false, startup := .scanning false } := by
        rw [settleHolds_held (s := { s with pinHold := false }) hheld]
        simp [hpower, hsupply]
      exact congrArg Host.Outcome.next hsettled
    · exact congrArg Host.Outcome.next
        (settleHolds_still_held (s := { s with pinHold := false }) hheld hpower hlow (.inl hsupply))

/-! SET_SETTING (R166, R180) -/

section
variable {s : State} {r : Request} {st : Settings}

/-- SET_SETTING of a value in range: a supply reset that the change calls for follows the answer (R166). -/
theorem exec_setSetting (htakes : s.Takes r) (hport : r.port = .uplink) (hasked : s.settingsAsked r = some st) :
    exec (.setSetting r) s = .next (if s.resetCalled st = true
      then (((s.takeSettings st).respond r 0x1F .ok).sendOut r.port).takeReset .supply
      else (s.takeSettings st).respond r 0x1F .ok) := by
  have hrole : RequestKind.setSetting.permits r.port = true := by rw [hport]; rfl
  have hfollows : s.resetFollows r = s.resetCalled st := by
    simp [State.resetFollows, takesFrame_of_takes htakes, isRunning_of_takes htakes, hrole, hasked]
  have hanswered : s.takeRequest .setSetting r (setSettingBody r) = (s.takeSettings st).respond r 0x1F .ok := by
    rw [takeRequest_run (isRunning_of_takes htakes) (takesFrame_of_takes htakes) hrole, setSettingBody, hasked,
      withParams_some]
    rfl
  simp only [exec, execSetSetting, hfollows, hanswered]

/-- A setting is named by its place in the order of R180, counted from 1, and its value is two bytes (12.2). -/
theorem settingsAsked_bytes {i : Fin 16} {k : Setting} {v : Nat} (hk : settingOrder[i]? = some k) (hv : v < 65536)
    (hparams : r.params = [byteOf (i.val + 1), byteOf (v / 256), byteOf v]) :
    s.settingsAsked r = s.settings.put k v := by
  have hcode : (byteOf (i.val + 1)).toNat = i.val + 1 := byteOf_toNat (by omega)
  have hnonzero : byteOf (i.val + 1) ≠ 0 := by
    intro h
    rw [h] at hcode
    simp at hcode
  have hsetting : settingOf (byteOf (i.val + 1)) = some k := by
    rw [settingOf, if_neg hnonzero, hcode]
    exact hk
  simp only [State.settingsAsked, hparams, parseSetting, hsetting, word16_byteOf hv, Option.bind_some]

theorem exec_setSetting_refused (htakes : s.Takes r) (hport : r.port = .uplink) (hasked : s.settingsAsked r = none) :
    exec (.setSetting r) s = .next (s.respond r 0x1F ⟨.badParameter, []⟩) := by
  refine exec_request_refused (k := .setSetting) rfl htakes (by rw [hport]; rfl) ?_ (by decide)
  rw [requestBody, setSettingBody, hasked, withParams_none]

/-- The state with other working settings that are not saved (R179). -/
def State.adopted (s : State) (st : Settings) : State := { s with settings := st, unsaved := true }

theorem putSettings_ne (h : st ≠ s.settings) : s.putSettings st = s.adopted st := if_neg h

theorem putSettings_same : s.putSettings s.settings = s := if_pos rfl

/-- Settings that call for a supply reset are put, and the reset alone follows (R166). -/
theorem takeSettings_reset (hcalled : s.resetCalled st = true) : s.takeSettings st = s.putSettings st := by
  unfold State.takeSettings
  rw [if_neg (by simp [hcalled])]

theorem takeSettings_same_alarm (h : st.alarm = s.settings.alarm) : s.takeSettings st = s.putSettings st := by
  unfold State.takeSettings
  rw [if_neg (by simp [h])]

theorem takeSettings_alarm (h : st.alarm ≠ s.settings.alarm) (hcalled : s.resetCalled st = false) :
    s.takeSettings st = (s.putSettings st).superviseSupply := by
  unfold State.takeSettings
  rw [if_pos ⟨h, hcalled⟩]

theorem sendOut_respond (hready : (s.port r.port).answer = .ready) (t : State) (hsame : t.port r.port = s.port r.port) :
    (t.respond r 0x1F .ok).sendOut r.port = t.setPort r.port { s.port r.port with
      sent := (s.port r.port).sent ++ [⟨r.tag, 0x1F, .ok, []⟩] } := by
  have hanswer : ((t.respond r 0x1F .ok).port r.port).answer = .answering (some ⟨r.tag, 0x1F, .ok, []⟩) := by
    rw [State.respond_port_same]
    rfl
  simp only [State.sendOut, hanswer]
  rw [State.respond_port_same, State.respond, setPort_setPort, hsame, ← hready]

/-- The supply reset of R166, after the answer has gone out. -/
theorem exec_setSetting_reset (htakes : s.Takes r) (hport : r.port = .uplink) (hasked : s.settingsAsked r = some st)
    (hchanged : st ≠ s.settings) (hcalled : s.resetCalled st = true) :
    exec (.setSetting r) s = .next (((s.adopted st).setPort r.port
      { s.port r.port with sent := (s.port r.port).sent ++ [⟨r.tag, 0x1F, .ok, []⟩] }).takeReset .supply) := by
  rw [exec_setSetting htakes hport hasked, if_pos hcalled, takeSettings_reset hcalled, putSettings_ne hchanged,
    sendOut_respond htakes.1.2.1]
  rfl

theorem exec_setSetting_plain (htakes : s.Takes r) (hport : r.port = .uplink) (hasked : s.settingsAsked r = some st)
    (hcalled : s.resetCalled st = false) :
    exec (.setSetting r) s = .next ((s.takeSettings st).respond r 0x1F .ok) := by
  rw [exec_setSetting htakes hport hasked, if_neg (by simp [hcalled])]

theorem resetCalled_alarm {a : AlarmLevel} (ha : a ≠ s.settings.alarm) :
    s.resetCalled { s.settings with alarm := a } =
      (decide (s.settings.monitorMode = .reset) && decide (s.supply < a.threshold)) := by
  simp [State.resetCalled, ha]

theorem resetCalled_monitorMode {m : MonitorMode} (hm : m ≠ s.settings.monitorMode) :
    s.resetCalled { s.settings with monitorMode := m } = (decide (m = .reset) && decide (s.monitor = .low)) := by
  simp [State.resetCalled, hm]

end

/-- Settles O30: what the change calls for is `resetCalled`, and otherwise the comparison of a changed level is
`superviseSupply`'s. -/
theorem thresholdSettingActsAtOnce : Obligations.ThresholdSettingActsAtOnce := by
  intro s r htakes hport
  refine ⟨fun v a hv ha hparams => ?alarm, fun hmode hparams => ?toReset, fun hmode hmonitor hparams => ?toAlarm⟩
  case alarm =>
    have hsmall : v ≤ 2 := by
      unfold alarmOf at hv
      grind
    have hhigh : (0 : Byte) = byteOf (v / 256) := by
      rw [Nat.div_eq_of_lt (by omega)]
      rfl
    have hasked : s.settingsAsked r = some { s.settings with alarm := a } := by
      rw [settingsAsked_bytes (i := 13) (k := .alarm) (v := v) rfl (by omega) (hparams.trans (by rw [hhigh]; rfl)), Settings.put, hv]
      rfl
    have hchanged : ({ s.settings with alarm := a } : Settings) ≠ s.settings := fun h => ha (congrArg Settings.alarm h)
    have hquiet (hmode : s.settings.monitorMode = .alarm) : s.resetCalled { s.settings with alarm := a } = false := by
      rw [resetCalled_alarm ha, hmode]
      rfl
    have hput (hmode : s.settings.monitorMode = .alarm) : exec (.setSetting r) s = .next
        ((s.adopted { s.settings with alarm := a }).superviseSupply.respond r 0x1F .ok) := by
      rw [exec_setSetting_plain htakes hport hasked (hquiet hmode), takeSettings_alarm ha (hquiet hmode),
        putSettings_ne hchanged]
    refine ⟨fun hmode hmonitor h => ?_, fun hmode hmonitor h => ?_, fun hmode hmonitor h => ?_,
      fun hmode hmonitor h => ?_, fun hmode h => ?_⟩
    · rw [hput hmode, supervise_alarm_fall (s := s.adopted { s.settings with alarm := a }) hmode hmonitor h]
      rfl
    · rw [hput hmode, supervise_alarm_fine (s := s.adopted { s.settings with alarm := a }) hmode hmonitor h]
      rfl
    · rw [hput hmode, supervise_alarm_recovery (s := s.adopted { s.settings with alarm := a }) hmode hmonitor h]
      rfl
    · rw [hput hmode, supervise_alarm_low (s := s.adopted { s.settings with alarm := a }) hmode hmonitor h]
      rfl
    · exact exec_setSetting_reset htakes hport hasked hchanged (by rw [resetCalled_alarm ha]; simp [hmode, h])
  case toReset =>
    have hasked : s.settingsAsked r = some { s.settings with monitorMode := .reset } := by
      rw [settingsAsked_bytes (i := 14) (k := .monitorMode) (v := 1) rfl (by decide) hparams]
      rfl
    have hnew : MonitorMode.reset ≠ s.settings.monitorMode := by simp [hmode]
    have hchanged : ({ s.settings with monitorMode := .reset } : Settings) ≠ s.settings :=
      fun h => hnew (congrArg Settings.monitorMode h)
    refine ⟨fun hmonitor => ?_, fun hmonitor => ?_⟩
    · exact exec_setSetting_reset htakes hport hasked hchanged (by rw [resetCalled_monitorMode hnew]; simp [hmonitor])
    · rw [exec_setSetting_plain htakes hport hasked (by rw [resetCalled_monitorMode hnew]; simp [hmonitor]),
        takeSettings_same_alarm (st := { s.settings with monitorMode := .reset }) rfl, putSettings_ne hchanged]
      rfl
  case toAlarm =>
    have hasked : s.settingsAsked r = some { s.settings with monitorMode := .alarm } := by
      rw [settingsAsked_bytes (i := 14) (k := .monitorMode) (v := 0) rfl (by decide) hparams]
      rfl
    have hnew : MonitorMode.alarm ≠ s.settings.monitorMode := by simp [hmode]
    have hchanged : ({ s.settings with monitorMode := .alarm } : Settings) ≠ s.settings :=
      fun h => hnew (congrArg Settings.monitorMode h)
    rw [exec_setSetting_plain htakes hport hasked (by rw [resetCalled_monitorMode hnew]; simp),
      takeSettings_same_alarm (st := { s.settings with monitorMode := .alarm }) rfl, putSettings_ne hchanged]
    rfl

end Sys2Proof.Machine

/-! PROOFS. REVOKE (R138), TRACE (R111, R112), ACTIVATE (R30, R31), the requests that write the store and the completion
of a write (R149 to R156), and the ranges of the settings (R180). -/

namespace Sys2Proof.Machine

/-! The lowest-numbered element that passes a test -/

theorem find?_finRange_eq_some {n : Nat} {p : Fin n → Bool} {i : Fin n} :
    (List.finRange n).find? p = some i ↔ p i = true ∧ ∀ j < i, p j = false := by
  rw [← Fin.find?_eq_find?_finRange, Fin.find?_eq_some_iff]

theorem find?_finRange_eq_none {n : Nat} {p : Fin n → Bool} : (List.finRange n).find? p = none ↔ ∀ i, p i = false := by
  rw [← Fin.find?_eq_find?_finRange, Fin.find?_eq_none_iff]

/-! REVOKE (R138) -/

section
variable {s : State} {f : FieldPort} {d : Drop}

theorem revokeClaim_frame (s : State) (f : FieldPort) (d : Drop) : s.revokeClaim f d = { s with
    claims := (s.revokeClaim f d).claims, lapses := (s.revokeClaim f d).lapses
    generators := (s.revokeClaim f d).generators, branches := (s.revokeClaim f d).branches
    lastServed := (s.revokeClaim f d).lastServed, ports := (s.revokeClaim f d).ports } := by
  unfold State.revokeClaim
  rw [(traceWork_detachAndOffer s (Generator.tracedBy f d)).frame]
  rfl

theorem revokeClaim_queue (s : State) (f : FieldPort) (d : Drop) (b : Branch) :
    (s.revokeClaim f d).queue b = s.queue b :=
  (traceWork_detachAndOffer s _).queue b

theorem revokeClaim_claim_same (s : State) (f : FieldPort) (d : Drop) : (s.revokeClaim f d).claim d = none :=
  State.setClaim_claim_same ..

theorem revokeClaim_claim_ne {e : Drop} (s : State) (f : FieldPort) (hne : e ≠ d) :
    (s.revokeClaim f d).claim e = s.claim e := by
  have hends : (s.revokeClaim f d).claim e = ((s.detachAndOffer (Generator.tracedBy f d)).setClaim d none).claim e := rfl
  rw [hends, State.setClaim_claim_ne _ _ _ _ hne.symm, (traceWork_detachAndOffer s _).frame]
  rfl

theorem revokeClaim_gen_attached (s : State) (f : FieldPort) (d : Drop) (g : Gen) :
    ((s.revokeClaim f d).gen g).attached ≠ some (d, .port f.port) :=
  detachAndOffer_tracedBy s f d g

theorem revokeClaim_lapsed (s : State) (f : FieldPort) (d : Drop) (h : FieldPort) (e : Drop) :
    (s.revokeClaim f d).lapsed h e = (s.lapsed h e || decide (h = f ∧ e = d)) := by
  have hkept : (s.detachAndOffer (Generator.tracedBy f d)).lapsed h e = s.lapsed h e := by
    rw [(traceWork_detachAndOffer s _).frame]
    rfl
  rw [← hkept]
  exact setLapse_lapsed ((s.detachAndOffer (Generator.tracedBy f d)).setClaim d none) f h d e

theorem revokeClaim_port (s : State) (f : FieldPort) (d : Drop) (p : Port) :
    (s.revokeClaim f d).port p = if f.port = p then (s.port p).raise .claimEnded else s.port p := by
  have hkept (q : Port) : (((s.detachAndOffer (Generator.tracedBy f d)).setClaim d none).setLapse f d).port q =
      s.port q := (jobWork_detachAndOffer s _).port q
  have hraised : s.revokeClaim f d = (((s.detachAndOffer (Generator.tracedBy f d)).setClaim d none).setLapse f d).raiseFor f
      .claimEnded := rfl
  rw [hraised, State.raiseFor, State.setPort_port, hkept, hkept]
  by_cases hp : f.port = p
  · rw [if_pos hp, if_pos hp, hp]
  · rw [if_neg hp, if_neg hp]

end

/-- Settles O25: REVOKE by the Uplink is `revokeClaim` of the holder. -/
theorem revokeEndsClaimWithEvent : Obligations.RevokeEndsClaimWithEvent := by
  refine ⟨fun f d g => ?traced, fun s r d htakes hport hparams => ⟨fun c hclaim => ?held, fun hfree => ?free⟩⟩
  case traced =>
    rw [Bool.eq_iff_iff, tracedBy_iff, decide_eq_true_iff]
  case free =>
    refine exec_request_refused (k := .revoke) rfl htakes (by rw [hport]; rfl) ?_ (by decide)
    simp only [requestBody, hparams, parseDrop_byteOf, withParams_some, hfree]
  case held =>
    have hbody : requestBody .revoke r s = (s.revokeClaim c.holder d, .ok) := by
      simp only [requestBody, hparams, parseDrop_byteOf, withParams_some, hclaim]
    have hother : r.port ≠ c.holder.port := by rw [hport]; cases c.holder <;> decide
    refine ⟨_, exec_request_body (k := .revoke) rfl (by decide) (by decide) htakes (by rw [hport]; rfl) hbody, rfl,
      revokeClaim_claim_same s _ d, fun e he => revokeClaim_claim_ne s _ he, revokeClaim_gen_attached s _ d,
      (revokeClaim_lapsed s _ d _ _).trans (by simp), fun h e hne => (revokeClaim_lapsed s _ d h e).trans ?_, ?_, ?_,
      fun p hp hholder => ?_, revokeClaim_queue s _ d, ?_⟩
    · rw [decide_eq_false (by tauto), Bool.or_false]
    · rw [State.respond_port_same, revokeClaim_port, if_neg hother.symm]
      rfl
    · rw [State.respond_port_ne _ _ _ _ _ hother, revokeClaim_port, if_pos rfl]
    · rw [State.respond_port_ne _ _ _ _ _ hp.symm, revokeClaim_port, if_neg hholder.symm]
    · rw [revokeClaim_frame]
      rfl

/-! TRACE (R111, R112) -/

theorem genOn_eq_some_of {s : State} {g : Gen} {d : Drop} {o : Owner} (hon : (s.gen g).attached = some (d, o))
    (honly : ∀ h a, (s.gen h).attached = some a → a.1 = d → h = g) : s.genOn d = some g := by
  refine find?_finRange_eq_some.mpr ⟨by simp [Generator.on, hon], fun h hlt => ?_⟩
  rw [Bool.eq_false_iff]
  intro hother
  obtain ⟨a, hattached, ha⟩ : ∃ a, (s.gen h).attached = some a ∧ a.1 = d := by
    simpa [Generator.on] using hother
  exact absurd (honly h a hattached ha) (Fin.ne_of_lt hlt)

theorem genOn_eq_none_iff {s : State} {d : Drop} : s.genOn d = none ↔ ∀ g a, (s.gen g).attached = some a → a.1 ≠ d := by
  refine find?_finRange_eq_none.trans (forall_congr' fun g => ?_)
  cases hattached : (s.gen g).attached with
  | none => simp [Generator.on, hattached]
  | some a => simp [Generator.on, hattached]

theorem freeGen_eq_some_iff {s : State} {g : Gen} :
    s.freeGen = some g ↔ (s.gen g).attached = none ∧ ∀ h < g, (s.gen h).attached ≠ none := by
  refine find?_finRange_eq_some.trans ?_
  simp [Option.isSome_iff_ne_none]

theorem freeGen_eq_none_iff {s : State} : s.freeGen = none ↔ ∀ g, (s.gen g).attached ≠ none := by
  refine find?_finRange_eq_none.trans ?_
  simp [Option.isSome_iff_ne_none]

theorem patternInUse_iff {s : State} {obs : Steps} : s.patternInUse obs = true ↔
    (∃ b, bindingCode b = obs) ∨ ∃ g, (s.gen g).attached ≠ none ∧ (s.gen g).observed = obs := by
  simp [State.patternInUse, allBranches, allGens, Option.isSome_iff_ne_none]

section
variable {s : State} {r : Request} {d : Drop} {pattern : Steps} {l : Nat}

theorem parseTrace_bytes (hl : l ∈ [8, 9, 10, 12]) :
    parseTrace [byteOf d.val, byteOf (pattern.toNat / 256), byteOf pattern.toNat, byteOf l] =
      some ⟨d, pattern, l⟩ := by
  have hbound : pattern.toNat < 4096 := pattern.isLt
  have hsmall : l < 256 := by
    simp only [List.mem_cons, List.not_mem_nil, or_false] at hl
    omega
  have hword : word16 (byteOf (pattern.toNat / 256)) (byteOf pattern.toNat) = pattern.toNat := word16_byteOf (by omega)
  have hrange : pattern.toNat < 4096 ∧ l ∈ [8, 9, 10, 12] := ⟨hbound, hl⟩
  simp only [parseTrace, dropOf_byteOf, hword, byteOf_toNat hsmall, if_pos hrange, BitVec.ofNat_toNat, BitVec.setWidth_eq]

theorem parseTrace_eq_none {d p1 p0 l : Byte} (h : 64 ≤ d.toNat ∨ 16 ≤ p1.toNat ∨ l.toNat ∉ [8, 9, 10, 12]) :
    parseTrace [d, p1, p0, l] = none := by
  by_cases hd : 64 ≤ d.toNat
  · simp only [parseTrace, dropOf_eq_none hd]
  · have hrange : ¬(word16 p1 p0 < 4096 ∧ l.toNat ∈ [8, 9, 10, 12]) := by
      rintro ⟨hword, hl⟩
      simp only [word16] at hword
      rcases h with h | h | h
      · exact hd h
      · omega
      · exact h hl
    simp only [parseTrace, if_neg hrange]
    split <;> rfl

theorem exec_trace {t : State} {a : Answer} (htakes : s.Takes r) (hbody : requestBody .trace r s = (t, a)) :
    exec (.trace r) s = .next (t.respond r 0x16 a) :=
  exec_request_body (k := .trace) rfl (by decide) (by decide) htakes rfl hbody

/-- TRACE with parameters in range: the checks of R111 in turn, and then the lowest-numbered free generator, if any. -/
theorem traceBody_bytes (hl : l ∈ [8, 9, 10, 12])
    (hparams : r.params = [byteOf d.val, byteOf (pattern.toNat / 256), byteOf pattern.toNat, byteOf l]) :
    ∃ effect, requestBody .trace r s = checked s (traceChecks s r.port ⟨d, pattern, l⟩) effect ∧
      (∀ g, s.freeGen = some g → effect = (s.attach g d (.port r.port) pattern l, ⟨.ok, [byteOf g.val]⟩)) ∧
      (s.freeGen = none → effect = (s, .just .noGenerator)) := by
  cases hfree : s.freeGen with
  | none =>
    refine ⟨(s, .just .noGenerator), ?_, fun g h => (by cases h), fun _ => rfl⟩
    simp only [requestBody, traceBody, hparams, parseTrace_bytes hl, withParams_some, hfree]
  | some g =>
    refine ⟨(s.attach g d (.port r.port) pattern l, ⟨.ok, [byteOf g.val]⟩), ?_, fun h hg => ?_, fun h => (by cases h)⟩
    · simp only [requestBody, traceBody, hparams, parseTrace_bytes hl, withParams_some, hfree]
    · cases hg
      rfl

end

/-- Settles O20: the five checks of R111 in turn, each as the statement words it. -/
theorem traceAttachesOrRefuses : Obligations.TraceAttachesOrRefuses := by
  refine ⟨fun s r d pattern l g htakes hparams hl hact hlit hbinding hunique huntraced hfree hlower => ?attach,
    fun s r d pattern l htakes hparams hl => ?refused, fun s r d p1 p0 l htakes hparams hrange => ?range⟩
  case range =>
    refine exec_trace htakes ?_
    rw [requestBody, traceBody, hparams, parseTrace_eq_none hrange, withParams_none]
    rfl
  case attach =>
    obtain ⟨effect, hbody, hsome, -⟩ := traceBody_bytes (s := s) hl hparams
    have hunused : ¬s.patternInUse (observedOf pattern l) = true := by
      rw [patternInUse_iff]
      rintro (⟨b, hb⟩ | ⟨h, hattached, hobserved⟩)
      · exact hbinding b hb
      · exact hunique h (Option.isSome_iff_ne_none.mpr hattached) hobserved
    have hoff : s.genOn d = none := genOn_eq_none_iff.mpr huntraced
    have hchecks : traceChecks s r.port ⟨d, pattern, l⟩ = [none, none, none, none] := by
      simp only [traceChecks, claimCheck_of_mayAct hact, failIf_of_not hlit, hoff]
      simp [failIf, hunused]
    rw [hchecks, hsome g (freeGen_eq_some_iff.mpr ⟨hfree, hlower⟩)] at hbody
    exact exec_trace htakes hbody
  case refused =>
    obtain ⟨effect, hbody, -, hnone⟩ := traceBody_bytes (s := s) hl hparams
    unfold traceChecks at hbody
    dsimp only at hbody ⊢
    split
    next hact => exact exec_trace htakes (hbody.trans (by rw [claimCheck_of_not_mayAct hact]; rfl))
    next hact =>
    rw [claimCheck_of_mayAct (by simpa using hact)] at hbody
    split
    next hdark => exact exec_trace htakes (hbody.trans (by rw [failIf_of hdark]; rfl))
    next hlit =>
    rw [failIf_of_not hlit] at hbody
    split
    next hused => exact exec_trace htakes (hbody.trans (by rw [patternInUse_iff.mpr hused]; rfl))
    next hunused =>
    rw [Bool.eq_false_iff.mpr (fun h => hunused (patternInUse_iff.mp h))] at hbody
    split
    next hon =>
      obtain ⟨g, a, hattached, ha⟩ := hon
      have htraced : (s.genOn d).isSome = true := by
        rw [Option.isSome_iff_ne_none, ne_eq, genOn_eq_none_iff]
        exact fun h => h g a hattached ha
      exact exec_trace htakes (hbody.trans (by rw [htraced]; rfl))
    next hoff =>
    have huntraced : s.genOn d = none := genOn_eq_none_iff.mpr fun g a hattached ha => hoff ⟨g, a, hattached, ha⟩
    split
    next hbusy =>
      exact exec_trace htakes (hbody.trans (by rw [huntraced, hnone (freeGen_eq_none_iff.mpr hbusy)]; rfl))
    next => trivial

/-! ACTIVATE (R30, R31) -/

theorem intakeOpen_iff {s : State} : s.intakeOpen = true ↔ s.mode = .live ∨ (s.mode = .hold ∧ s.resume = .live) := by
  simp [State.intakeOpen]

theorem intakeOpen_eq_false_iff {s : State} :
    s.intakeOpen = false ↔ s.mode = .survey ∨ (s.mode = .hold ∧ s.resume = .survey) := by
  rw [← Bool.not_eq_true, intakeOpen_iff]
  cases s.mode <;> cases s.resume <;> simp

theorem appendJob_queue (s : State) (d : Drop) (k : JobKind) (q : Requester) (b : Branch) :
    (s.appendJob d k q).queue b = if d.branch = b then s.queue b ++ [⟨d, k, .waiting, q, 0⟩] else s.queue b := by
  rw [State.appendJob, State.setQueue_queue]
  by_cases h : d.branch = b
  · rw [if_pos h, if_pos h, h]
  · rw [if_neg h, if_neg h]

section
variable {s : State} {r : Request} {d : Drop}

theorem exec_activate {t : State} {a : Answer} (htakes : s.Takes r) (hbody : requestBody .activate r s = (t, a)) :
    exec (.activate r) s = .next (t.respond r 0x14 a) :=
  exec_request_body (k := .activate) rfl (by decide) (by decide) htakes rfl hbody

theorem activateBody_drop (hparams : r.params = [byteOf d.val]) : requestBody .activate r s = checked s
    [failIf (!s.intakeOpen) .mode, s.claimCheck r.port d, s.stateCheck d [.planned, .bound],
      s.jobCheck d [.planned, .bound], failIf (decide (6 ≤ (s.queue d.branch).length)) .queueFull]
    (s.activate r.port d, .just .queued) := by
  rw [requestBody, activateBody, hparams, parseDrop_byteOf, withParams_some]
  rfl

end

/-- A branch whose head may neither start nor take the window stands (R36, R39). -/
theorem proceed_eq_self {s : State} {b : Branch} (hstart : s.mode ≠ .live) (hdue : (s.branch b).openDue = false)
    (hhead : ∀ j ∈ (s.queue b).head?, j.stage ≠ .matching ∧ j.stage ≠ .range) : s.proceed b = s := by
  have hstarted : s.startHead b = s := by
    unfold State.startHead
    split
    · rw [if_neg (fun h => hstart h.1)]
    · rfl
  rw [State.proceed, hstarted, State.grant]
  split
  · rw [if_neg (by simp [hdue])]
    cases hqueue : s.queue b with
    | nil => rfl
    | cons j js =>
      obtain ⟨hmatching, hrange⟩ := hhead j (by simp [hqueue])
      cases hstage : j.stage <;> simp_all
  · rfl

/-- Settles O16. -/
theorem activateQueuesOrRefuses : Obligations.ActivateQueuesOrRefuses := by
  refine ⟨fun s r d htakes hparams hact hopen hfree hroom k hkind => ⟨?queued, ?queue, fun hmode hdue hhead => ?hold⟩,
    fun s r d htakes hparams => ?refused⟩
  case queued =>
    have hstate : (s.entry d).state ∈ [EntryState.planned, .bound] := by rcases hkind with h | h <;> simp [h.1]
    have happended : s.activate r.port d = (s.appendJob d k (.port r.port)).proceed d.branch := by
      rcases hkind with ⟨h, rfl⟩ | ⟨h, rfl⟩ <;> rw [State.activate, h] <;> rfl
    refine exec_activate htakes ((activateBody_drop hparams).trans ?_)
    rw [intakeOpen_iff.mpr hopen, claimCheck_of_mayAct hact, stateCheck_eq_none hstate, jobCheck_of_no_job hfree,
      failIf_of_not (Nat.not_le.mpr hroom), happended]
    rfl
  case queue => rw [appendJob_queue, if_pos rfl]
  case hold =>
    have hbranch : ((s.appendJob d k (.port r.port)).branch d.branch).openDue = false := by
      rw [State.appendJob, State.setQueue, State.setBranch_branch_same]
      exact hdue
    refine proceed_eq_self (s := s.appendJob d k (.port r.port)) (by simp [State.appendJob, hmode]) hbranch ?_
    intro j hj
    rw [appendJob_queue, if_pos rfl] at hj
    cases hqueue : s.queue d.branch with
    | nil =>
      simp only [hqueue, List.nil_append, List.head?_cons, Option.mem_def, Option.some.injEq] at hj
      subst hj
      simp
    | cons i is =>
      simp only [hqueue, List.cons_append, List.head?_cons, Option.mem_def, Option.some.injEq] at hj
      subst hj
      rcases hhead i (by simp [hqueue]) with h | h <;> simp [h]
  case refused =>
    have hbody := activateBody_drop (s := s) hparams
    dsimp only
    split
    next hshut => exact exec_activate htakes (hbody.trans (by rw [intakeOpen_eq_false_iff.mpr hshut]; rfl))
    next hshut =>
    rw [Bool.eq_true_of_not_eq_false fun h => hshut (intakeOpen_eq_false_iff.mp h)] at hbody
    split
    next hact => exact exec_activate htakes (hbody.trans (by rw [claimCheck_of_not_mayAct hact]; rfl))
    next hact =>
    rw [claimCheck_of_mayAct (by simpa using hact)] at hbody
    split
    next hstate => exact exec_activate htakes (hbody.trans (by rw [stateCheck_eq_some (by simp [hstate])]; rfl))
    next hstate =>
    have hin : (s.entry d).state ∈ [EntryState.planned, .bound] := by
      simp only [List.mem_cons, List.not_mem_nil, or_false]
      tauto
    rw [stateCheck_eq_none hin] at hbody
    split
    next hjob => exact exec_activate htakes (hbody.trans (by rw [jobCheck_eq_some hin hjob]; rfl))
    next hjob =>
    rw [jobCheck_of_no_job (not_not.mp hjob)] at hbody
    split
    next hfull => exact exec_activate htakes (hbody.trans (by rw [failIf_of hfull]; rfl))
    next => trivial

end Sys2Proof.Machine

/-! PROOFS. The requests that write the Commissioning Store, the completion of a write, what the scan finds in a record
(R147 to R158), and the ranges of the settings (R180). -/

namespace Sys2Proof.Machine

/-! The checks of a write (R153) -/

section
variable {s : State} {r : Request} {d : Drop}

theorem writeModeCheck_hold (h : s.mode = .hold) : s.writeModeCheck = some .supplyLow := failIf_of h

theorem writeModeCheck_pass (h : s.mode ≠ .hold) : s.writeModeCheck = none := failIf_of_not h

theorem writeChecks_spent {marks : Nat} (out : State × Answer) (h : 4 ≤ marks) :
    checked s (s.writeChecks marks) out = (s, ⟨.storeSpent, []⟩) := by
  rw [State.writeChecks, failIf_of (p := Config.commitMarks ≤ marks) h]
  rfl

theorem writeChecks_supplyLow {marks : Nat} (out : State × Answer) (hmarks : ¬4 ≤ marks)
    (h : s.supply < s.settings.alarm.threshold + 6) :
    checked s (s.writeChecks marks) out = (s, ⟨.supplyLow, []⟩) := by
  rw [State.writeChecks, failIf_of_not (p := Config.commitMarks ≤ marks) hmarks, State.belowCommit,
    failIf_of (p := s.supply < s.settings.alarm.commit) h]
  rfl

theorem writeChecks_busy {marks : Nat} (out : State × Answer) (hmarks : ¬4 ≤ marks)
    (hsupply : ¬s.supply < s.settings.alarm.threshold + 6) (h : s.controller ≠ .idle) :
    checked s (s.writeChecks marks) out = (s, ⟨.storeBusy, []⟩) := by
  rw [State.writeChecks, failIf_of_not (p := Config.commitMarks ≤ marks) hmarks, State.belowCommit,
    failIf_of_not (p := s.supply < s.settings.alarm.commit) hsupply, failIf_of h]
  rfl

theorem writeChecks_pass {marks : Nat} (out : State × Answer) (hmarks : ¬4 ≤ marks)
    (hsupply : ¬s.supply < s.settings.alarm.threshold + 6) (h : s.controller = .idle) :
    checked s (s.writeChecks marks) out = out := by
  rw [State.writeChecks, failIf_of_not (p := Config.commitMarks ≤ marks) hmarks, State.belowCommit,
    failIf_of_not (p := s.supply < s.settings.alarm.commit) hsupply, failIf_of_not (not_not.mpr h)]
  rfl

theorem exec_commit {t : State} {a : Answer} (htakes : s.Takes r) (hport : r.port = .uplink)
    (hbody : requestBody .commit r s = (t, a)) : exec (.commit r) s = .next (t.respond r 0x1C a) :=
  exec_request_body (k := .commit) rfl (by decide) (by decide) htakes (by rw [hport]; rfl) hbody

theorem exec_releaseSlot {t : State} {a : Answer} (htakes : s.Takes r) (hport : r.port = .uplink)
    (hbody : requestBody .releaseSlot r s = (t, a)) : exec (.releaseSlot r) s = .next (t.respond r 0x1D a) :=
  exec_request_body (k := .releaseSlot) rfl (by decide) (by decide) htakes (by rw [hport]; rfl) hbody

theorem exec_saveSettings {t : State} {a : Answer} (htakes : s.Takes r) (hport : r.port = .uplink)
    (hbody : requestBody .saveSettings r s = (t, a)) : exec (.saveSettings r) s = .next (t.respond r 0x1E a) :=
  exec_request_body (k := .saveSettings) rfl (by decide) (by decide) htakes (by rw [hport]; rfl) hbody

theorem commitBody_drop (hport : r.port = .uplink) (hparams : r.params = [byteOf d.val]) :
    requestBody .commit r s = checked s
      (s.surveyCheck :: s.writeModeCheck :: s.claimCheck .uplink d ::
        failIf (decide ((s.entry d).state ≠ .active)) .wrongState :: s.writeChecks (s.slot d).marks)
      (s.takeSeq.beginWrite (.slot d (.filled (s.snapshot d))), .accepted) := by
  rw [requestBody, commitBody, hparams, parseDrop_byteOf, withParams_some, hport]
  rfl

theorem releaseSlotBody_drop (hport : r.port = .uplink) (hparams : r.params = [byteOf d.val]) :
    requestBody .releaseSlot r s = checked s
      (s.surveyCheck :: s.writeModeCheck :: s.claimCheck .uplink d :: s.writeChecks (s.slot d).marks)
      (s.takeSeq.beginWrite (.slot d (.empty s.nextSeq)), .accepted) := by
  rw [requestBody, releaseSlotBody, hparams, parseDrop_byteOf, withParams_some, hport]
  rfl

theorem saveSettingsBody_estate {estate : Option (BitVec 32)} (hparams : parseEstate r.params = some estate) :
    requestBody .saveSettings r s =
      checked s (s.writeModeCheck :: s.writeChecks s.header.marks) (s.saveSettings estate, .accepted) := by
  rw [requestBody, saveSettingsBody, hparams, withParams_some]

end

theorem parseEstate_bytes (a b c d : Byte) : parseEstate [a, b, c, d] = some (some (a ++ b ++ c ++ d)) := by
  have hvalue : BitVec.ofNat 32 (bytesValue [a, b, c, d]) = a ++ b ++ c ++ d := by
    apply BitVec.eq_of_toNat_eq
    have hbytes : (a ++ b ++ c ++ d).toNat = bytesValue [a, b, c, d] := by
      simp [toNat_append_byte, bytesValue]
    rw [BitVec.toNat_ofNat, ← hbytes]
    exact Nat.mod_eq_of_lt (a ++ b ++ c ++ d).isLt
  rw [parseEstate, hvalue]

theorem parseEstate_of_length_ok {l : List Byte} (h : l.length = 0 ∨ l.length = 4) : ∃ e, parseEstate l = some e := by
  match l, h with
  | [], _ => exact ⟨_, rfl⟩
  | [_, _, _, _], _ => exact ⟨_, rfl⟩

/-- Settles O26: each request's checks in turn; the write begins with `beginWrite`. -/
theorem storeWritesSpendMarksAtAcceptance : Obligations.StoreWritesSpendMarksAtAcceptance := by
  refine ⟨fun s r d htakes hport hparams hmode hclaim hmarks hsupply hidle =>
      ⟨fun n delay hstate hserial hdelay => ?commit, ?release⟩, fun s r d htakes hport hparams => ?commitRefused,
    fun s r htakes hport hmode hmarks hsupply hidle => ⟨fun hparams => ?save, fun a b c d hparams => ?saveEstate⟩,
    fun s r d htakes hport hparams => ?releaseRefused, fun s r htakes hport hlen => ?saveRefused⟩
  case commit =>
    have hbody := commitBody_drop (s := s) hport hparams
    rw [surveyCheck_eq_none (by simp [hmode]), writeModeCheck_pass (by simp [hmode]), claimCheck_uplink_eq_none hclaim,
      failIf_of_not (not_not.mpr hstate), checked_cons_none, checked_cons_none, checked_cons_none, checked_cons_none,
      writeChecks_pass _ (Nat.not_le.mpr hmarks) (Nat.not_lt.mpr hsupply) hidle] at hbody
    rw [exec_commit htakes hport hbody]
    simp only [State.snapshot, hserial, hdelay, Option.getD_some]
    rfl
  case release =>
    have hbody := releaseSlotBody_drop (s := s) hport hparams
    rw [surveyCheck_eq_none (by simp [hmode]), writeModeCheck_pass (by simp [hmode]), claimCheck_uplink_eq_none hclaim,
      checked_cons_none, checked_cons_none, checked_cons_none,
      writeChecks_pass _ (Nat.not_le.mpr hmarks) (Nat.not_lt.mpr hsupply) hidle] at hbody
    exact exec_releaseSlot htakes hport hbody
  case commitRefused =>
    have hbody := commitBody_drop (s := s) hport hparams
    dsimp only
    split
    next hmode => exact exec_commit htakes hport (hbody.trans (by rw [surveyCheck_eq_some hmode]; rfl))
    next hmode =>
    rw [surveyCheck_eq_none hmode, checked_cons_none] at hbody
    split
    next hhold => exact exec_commit htakes hport (hbody.trans (by rw [writeModeCheck_hold hhold]; rfl))
    next hhold =>
    rw [writeModeCheck_pass hhold, checked_cons_none] at hbody
    split
    next hclaim => exact exec_commit htakes hport (hbody.trans (by rw [claimCheck_uplink_eq_some hclaim]; rfl))
    next hclaim =>
    rw [claimCheck_uplink_eq_none (not_not.mp hclaim), checked_cons_none] at hbody
    split
    next hstate => exact exec_commit htakes hport (hbody.trans (by rw [failIf_of hstate]; rfl))
    next hstate =>
    rw [failIf_of_not hstate, checked_cons_none] at hbody
    split
    next hspent => exact exec_commit htakes hport (hbody.trans (writeChecks_spent _ hspent))
    next hspent =>
    split
    next hlow => exact exec_commit htakes hport (hbody.trans (writeChecks_supplyLow _ hspent hlow))
    next hlow =>
    split
    next hbusy => exact exec_commit htakes hport (hbody.trans (writeChecks_busy _ hspent hlow hbusy))
    next => trivial
  case save =>
    have hestate : parseEstate r.params = some none := by rw [hparams]; rfl
    have hbody := saveSettingsBody_estate (s := s) hestate
    rw [writeModeCheck_pass hmode, checked_cons_none,
      writeChecks_pass _ (Nat.not_le.mpr hmarks) (Nat.not_lt.mpr hsupply) hidle] at hbody
    exact exec_saveSettings htakes hport hbody
  case saveEstate =>
    have hestate : parseEstate r.params = some (some (a ++ b ++ c ++ d)) := by rw [hparams, parseEstate_bytes]
    have hbody := saveSettingsBody_estate (s := s) hestate
    rw [writeModeCheck_pass hmode, checked_cons_none,
      writeChecks_pass _ (Nat.not_le.mpr hmarks) (Nat.not_lt.mpr hsupply) hidle] at hbody
    exact exec_saveSettings htakes hport hbody
  case releaseRefused =>
    have hbody := releaseSlotBody_drop (s := s) hport hparams
    dsimp only
    split
    next hmode => exact exec_releaseSlot htakes hport (hbody.trans (by rw [surveyCheck_eq_some hmode]; rfl))
    next hmode =>
    rw [surveyCheck_eq_none hmode, checked_cons_none] at hbody
    split
    next hhold => exact exec_releaseSlot htakes hport (hbody.trans (by rw [writeModeCheck_hold hhold]; rfl))
    next hhold =>
    rw [writeModeCheck_pass hhold, checked_cons_none] at hbody
    split
    next hclaim => exact exec_releaseSlot htakes hport (hbody.trans (by rw [claimCheck_uplink_eq_some hclaim]; rfl))
    next hclaim =>
    rw [claimCheck_uplink_eq_none (not_not.mp hclaim), checked_cons_none] at hbody
    split
    next hspent => exact exec_releaseSlot htakes hport (hbody.trans (writeChecks_spent _ hspent))
    next hspent =>
    split
    next hlow => exact exec_releaseSlot htakes hport (hbody.trans (writeChecks_supplyLow _ hspent hlow))
    next hlow =>
    split
    next hbusy => exact exec_releaseSlot htakes hport (hbody.trans (writeChecks_busy _ hspent hlow hbusy))
    next => trivial
  case saveRefused =>
    obtain ⟨estate, hestate⟩ := parseEstate_of_length_ok hlen
    have hbody := saveSettingsBody_estate (s := s) hestate
    dsimp only
    split
    next hhold => exact exec_saveSettings htakes hport (hbody.trans (by rw [writeModeCheck_hold hhold]; rfl))
    next hhold =>
    rw [writeModeCheck_pass hhold, checked_cons_none] at hbody
    split
    next hspent => exact exec_saveSettings htakes hport (hbody.trans (writeChecks_spent _ hspent))
    next hspent =>
    split
    next hlow => exact exec_saveSettings htakes hport (hbody.trans (writeChecks_supplyLow _ hspent hlow))
    next hlow =>
    split
    next hbusy => exact exec_saveSettings htakes hport (hbody.trans (writeChecks_busy _ hspent hlow hbusy))
    next => trivial

/-! The completion of a write (R151, R172) -/

theorem completeWrite_controller (s : State) (w : Write) : (s.completeWrite w).controller = .idle := rfl

theorem completeWrite_noHolds {s : State} (w : Write) (h : s.NoHolds) : (s.completeWrite w).NoHolds := by
  cases w <;> exact h

theorem completeWrite_port (s : State) (w : Write) (p : Port) :
    (s.completeWrite w).port p = (s.port p).raise .storeDone := by
  unfold State.completeWrite
  dsimp only
  rw [State.raise_port]
  cases w <;> rfl

theorem completeWrite_slot (s : State) (d : Drop) (body : SlotBody) :
    (s.completeWrite (.slot d body)).slot d = (s.slot d).written body.bytes := by
  change ((s.setSlot d ((s.slot d).written body.bytes)).setImage d body.image).slot d = _
  simp

theorem exec_storeWriteComplete {s : State} {w : Write} (hrun : s.startup = .running)
    (hwriting : s.controller = .writing w) (hnone : s.restart = none) :
    exec .storeWriteComplete s = .next (s.completeWrite w) := by
  have hruns : s.isRunning = true := by simp [State.isRunning, hrun]
  refine (whileRunning_run State.storeWriteComplete hruns).trans ?_
  simp only [State.storeWriteComplete, hwriting, hnone]

theorem exec_storeWriteComplete_restart {s : State} {w : Write} {tag : Byte} (hrun : s.startup = .running)
    (hwriting : s.controller = .writing w) (hrestart : s.restart = some tag) :
    exec .storeWriteComplete s = .next ((s.completeWrite w).restartNow .uplink tag) := by
  have hruns : s.isRunning = true := by simp [State.isRunning, hrun]
  refine (whileRunning_run State.storeWriteComplete hruns).trans ?_
  simp only [State.storeWriteComplete, hwriting, hrestart]

/-- Settles O27. -/
theorem writeCompletionReplacesImage : Obligations.WriteCompletionReplacesImage := by
  intro s hrun
  refine ⟨fun d body hwriting hnone => ?slot, fun st n hwriting hnone => ?header,
    fun w tag hwriting hrestart hfree => ?restart⟩
  case slot => exact exec_storeWriteComplete hrun hwriting hnone
  case header => exact exec_storeWriteComplete hrun hwriting hnone
  case restart =>
    refine ⟨_, exec_storeWriteComplete_restart hrun hwriting hrestart, ?_⟩
    have hdone := completeWrite_port s w
    have hslot (d : Drop) (body : SlotBody) (hw : w = .slot d body) :
        (s.completeWrite w).slot d = (s.slot d).written body.bytes := by
      rw [hw, completeWrite_slot]
    have hidle := completeWrite_controller s w
    have hholds := completeWrite_noHolds w hfree
    generalize s.completeWrite w = v at hdone hslot hidle hholds
    unfold State.restartNow
    generalize hanswered : v.setPort .uplink { v.port .uplink with
      sent := (v.port .uplink).sent ++ [⟨tag, RequestKind.restart.code, .ok, []⟩] } = u
    obtain ⟨_, _, _, hframe⟩ := takeReset_eq .command u
    have hcauses (p : Port) : (u.port p).causes = (s.port p).causes := by
      rw [← hanswered, State.setPort_port]
      split
      next h => rw [← h, hdone]; rfl
      next => rw [hdone]; rfl
    refine ⟨takeReset_command_free (by rw [← hanswered]; exact hholds), by rw [hframe]; rfl, takeReset_restart .command u,
      ?_, by rw [takeReset_port]; rfl, fun p => ?_,
      fun d body hw => ?_⟩
    · rw [takeReset_port, ← hanswered, State.setPort_port_same, hdone]
      rfl
    · rw [takeReset_port, ← hcauses]
      rfl
    · rw [takeReset_slot, tearWrite_idle (by rw [← hanswered]; exact hidle), ← hanswered]
      exact hslot d body hw

/-! The ranges of the settings (R180) -/

section
variable {st st' : Settings} {k : Setting} {v : Nat}

theorem inRange_eq_some {lo hi n : Nat} : inRange lo hi v = some n ↔ (lo ≤ v ∧ v ≤ hi) ∧ v = n := by
  unfold inRange
  split <;> simp [*]

theorem oneOf_eq_some {vs : List Nat} {n : Nat} : oneOf vs v = some n ↔ v ∈ vs ∧ v = n := by
  unfold oneOf
  split <;> simp [*]

theorem twoValued_eq_some {α : Type} {first second x : α} :
    twoValued v first second = some x ↔ (v = 0 ∧ first = x) ∨ (v = 1 ∧ second = x) := by
  unfold twoValued
  split
  · simp [*]
  · split <;> simp [*]

theorem alarmOf_eq_some {a : AlarmLevel} : alarmOf v = some a ↔ (v = 0 ∧ .a1 = a) ∨ (v = 1 ∧ .a2 = a) ∨ (v = 2 ∧ .a3 = a) := by
  unfold alarmOf
  split
  · simp [*]
  · split
    · simp [*]
    · split <;> simp [*]

theorem put_value (h : st.put k v = some st') : st'.value k = v ∧ ∀ l, l ≠ k → st'.value l = st.value l := by
  cases k with
  | openPeriod | span | silenceLimit | lease | ageLimit | acceptLow | acceptHigh =>
    simp only [Settings.put, Option.map_eq_some_iff, inRange_eq_some] at h
    obtain ⟨n, ⟨-, rfl⟩, rfl⟩ := h
    exact ⟨rfl, fun l hl => by cases l <;> simp_all [Settings.value]⟩
  | stepWidth | divisor =>
    simp only [Settings.put, Option.map_eq_some_iff, oneOf_eq_some] at h
    obtain ⟨n, ⟨-, rfl⟩, rfl⟩ := h
    exact ⟨rfl, fun l hl => by cases l <;> simp_all [Settings.value]⟩
  | providers | record =>
    simp only [Settings.put, Option.ite_none_right_eq_some, Option.some.injEq] at h
    obtain ⟨hrange, rfl⟩ := h
    refine ⟨?_, fun l hl => by cases l <;> simp_all [Settings.value]⟩
    simp only [Settings.value, BitVec.toNat_ofNat]
    omega
  | recovery | tolerance | monitorMode | startMode =>
    simp only [Settings.put, Option.map_eq_some_iff, twoValued_eq_some] at h
    obtain ⟨x, ⟨rfl, rfl⟩ | ⟨rfl, rfl⟩, rfl⟩ := h <;>
      exact ⟨rfl, fun l hl => by cases l <;> simp_all [Settings.value]⟩
  | alarm =>
    simp only [Settings.put, Option.map_eq_some_iff, alarmOf_eq_some] at h
    obtain ⟨x, ⟨rfl, rfl⟩ | ⟨rfl, rfl⟩ | ⟨rfl, rfl⟩, rfl⟩ := h <;>
      exact ⟨rfl, fun l hl => by cases l <;> simp_all [Settings.value]⟩

theorem value_alarm_injective {a b : Settings} (h : a.value .alarm = b.value .alarm) : a.alarm = b.alarm := by
  cases ha : a.alarm <;> cases hb : b.alarm <;> simp_all [Settings.value]

theorem value_monitorMode_injective {a b : Settings} (h : a.value .monitorMode = b.value .monitorMode) :
    a.monitorMode = b.monitorMode := by
  cases ha : a.monitorMode <;> cases hb : b.monitorMode <;> simp_all [Settings.value]

theorem inRange_ne_none {lo hi : Nat} : inRange lo hi v ≠ none ↔ lo ≤ v ∧ v ≤ hi := by
  unfold inRange
  split <;> simp [*]

theorem oneOf_ne_none {vs : List Nat} : oneOf vs v ≠ none ↔ v ∈ vs := by
  unfold oneOf
  split <;> simp [*]

theorem twoValued_ne_none {α : Type} {first second : α} : twoValued v first second ≠ none ↔ v ≤ 1 := by
  rw [← Option.isSome_iff_ne_none, Option.isSome_iff_exists]
  simp only [twoValued_eq_some]
  constructor
  · rintro ⟨x, ⟨rfl, -⟩ | ⟨rfl, -⟩⟩ <;> omega
  · intro h
    rcases Nat.le_one_iff_eq_zero_or_eq_one.mp h with rfl | rfl
    · exact ⟨first, .inl ⟨rfl, rfl⟩⟩
    · exact ⟨second, .inr ⟨rfl, rfl⟩⟩

theorem alarmOf_ne_none : alarmOf v ≠ none ↔ v ≤ 2 := by
  rw [← Option.isSome_iff_ne_none, Option.isSome_iff_exists]
  simp only [alarmOf_eq_some]
  constructor
  · rintro ⟨x, ⟨rfl, -⟩ | ⟨rfl, -⟩ | ⟨rfl, -⟩⟩ <;> omega
  · intro h
    obtain rfl | rfl | rfl : v = 0 ∨ v = 1 ∨ v = 2 := by omega
    · exact ⟨.a1, .inl ⟨rfl, rfl⟩⟩
    · exact ⟨.a2, .inr (.inl ⟨rfl, rfl⟩)⟩
    · exact ⟨.a3, .inr (.inr ⟨rfl, rfl⟩)⟩

end

theorem settingsAsked_unknown {s : State} {r : Request} {c v1 v0 : Byte} (hparams : r.params = [c, v1, v0])
    (hc : c = 0 ∨ 17 ≤ c.toNat) : s.settingsAsked r = none := by
  have hsetting : settingOf c = none := by
    unfold settingOf
    split
    · rfl
    · next hnonzero =>
      have hlong : 17 ≤ c.toNat := hc.resolve_left hnonzero
      exact List.getElem?_eq_none (by simp only [settingOrder, List.length_cons, List.length_nil]; omega)
  simp only [State.settingsAsked, hparams, parseSetting, hsetting, Option.bind_none]

/-- Settles O29: `settingsAsked_bytes` names the setting, `put_value` says what it changes, and the range of each is its
own. -/
theorem setSettingAndRanges : Obligations.SetSettingAndRanges := by
  refine ⟨fun s r i k v st htakes hport hk hv hparams hput => ⟨fun hsame => ?repeated, fun hne halarm hmode => ?changed,
      put_value hput⟩, fun s r c v1 v0 htakes hport hparams hc => ?unknown,
    fun s r i k v htakes hport hk hv hparams hput => ?range, fun st v => ?ranges⟩
  case repeated =>
    subst hsame
    have hasked := (settingsAsked_bytes hk hv hparams).trans hput
    have hquiet : s.resetCalled s.settings = false := by simp [State.resetCalled]
    rw [exec_setSetting_plain htakes hport hasked hquiet, takeSettings_same_alarm rfl, putSettings_same]
  case changed =>
    have hasked := (settingsAsked_bytes hk hv hparams).trans hput
    have halarm' : st.alarm = s.settings.alarm := value_alarm_injective ((put_value hput).2 _ halarm.symm)
    have hmode' : st.monitorMode = s.settings.monitorMode := value_monitorMode_injective ((put_value hput).2 _ hmode.symm)
    have hquiet : s.resetCalled st = false := by simp [State.resetCalled, halarm', hmode']
    rw [exec_setSetting_plain htakes hport hasked hquiet, takeSettings_same_alarm halarm', putSettings_ne hne]
    rfl
  case unknown => exact exec_setSetting_refused htakes hport (settingsAsked_unknown hparams hc)
  case range => exact exec_setSetting_refused htakes hport ((settingsAsked_bytes hk hv hparams).trans hput)
  case ranges =>
    have mapped {α β : Type} {o : Option α} {f : α → β} : o.map f ≠ none ↔ o ≠ none := not_congr Option.map_eq_none_iff
    unfold Settings.put
    refine ⟨mapped.trans inRange_ne_none, mapped.trans (oneOf_ne_none.trans (by simp)),
      mapped.trans (inRange_ne_none.trans (by omega)), mapped.trans (inRange_ne_none.trans and_comm),
      mapped.trans inRange_ne_none, mapped.trans (oneOf_ne_none.trans (by simp)), mapped.trans inRange_ne_none,
      mapped.trans inRange_ne_none, mapped.trans inRange_ne_none, by simp, by simp, fun k hk => ?_,
      mapped.trans alarmOf_ne_none⟩
    simp only [List.mem_cons, List.not_mem_nil, or_false] at hk
    rcases hk with rfl | rfl | rfl | rfl <;> exact mapped.trans twoValued_ne_none

end Sys2Proof.Machine

/-! PROOFS. Fields of byte lists (R184, 12.3, 12.4): where a field of a list of bytes lies, the store records as the scan
reads them back (R147, R148), and the read-outs. -/

namespace Sys2Proof.Machine

/-! Fields of a list of bytes -/

section
variable {xs ys : List Byte} {b : Byte} {i k n v w : Nat}

theorem fieldAt_append_right (h : xs.length ≤ i) : fieldAt (xs ++ ys) i n = fieldAt ys (i - xs.length) n := by
  simp only [fieldAt, List.drop_append, List.drop_eq_nil_of_le h, List.nil_append]

@[simp] theorem fieldAt_cons_succ : fieldAt (b :: xs) (i + 1) n = fieldAt xs i n := rfl

@[simp] theorem fieldAt_cons_zero : fieldAt (b :: xs) 0 1 = b.toNat := by simp [fieldAt, bytesValue]

theorem fieldAt_append_left (h : i + n ≤ xs.length) : fieldAt (xs ++ ys) i n = fieldAt xs i n := by
  rw [fieldAt, fieldAt, List.drop_append_of_le_length (by omega), List.take_append_of_le_length]
  rw [List.length_drop]
  omega

@[simp] theorem fieldAt_beBytes : fieldAt (beBytes k v) 0 k = v % 256 ^ k := by
  have hall : (beBytes k v).take k = beBytes k v := List.take_of_length_le (by simp)
  rw [fieldAt, List.drop_zero, hall, bytesValue_beBytes]

@[simp] theorem fieldAt_beBytes_append : fieldAt (beBytes k v ++ ys) 0 k = v % 256 ^ k := by
  rw [fieldAt_append_left (by simp), fieldAt_beBytes]

@[simp] theorem fieldAt_skip_beBytes (h : k ≤ i) : fieldAt (beBytes k v ++ ys) i n = fieldAt ys (i - k) n := by
  rw [fieldAt_append_right (by simpa using h), length_beBytes]

theorem length_flatMap_const {α : Type} {f : α → List Byte} (hw : ∀ a, (f a).length = w) (l : List α) :
    (l.flatMap f).length = w * l.length := by
  induction l with
  | nil => rfl
  | cons a l ih =>
    rw [List.flatMap_cons, List.length_append, hw, ih, List.length_cons]
    ring

/-- In a list of records of one length, a field of record `i` lies `i` records on. -/
theorem fieldAt_flatMap {α : Type} {f : α → List Byte} {l : List α} {a : α} {o : Nat} (hw : ∀ a, (f a).length = w)
    (hi : l[i]? = some a) (ho : o + n ≤ w) : fieldAt (l.flatMap f ++ ys) (w * i + o) n = fieldAt (f a) o n := by
  induction l generalizing i with
  | nil => simp at hi
  | cons c l ih =>
    rw [List.flatMap_cons, List.append_assoc]
    cases i with
    | zero =>
      rw [List.getElem?_cons_zero, Option.some.injEq] at hi
      rw [Nat.mul_zero, Nat.zero_add, fieldAt_append_left (by rw [hw]; exact ho), hi]
    | succ i =>
      rw [List.getElem?_cons_succ] at hi
      have hskip : w * (i + 1) + o - w = w * i + o := by rw [Nat.mul_succ]; omega
      rw [fieldAt_append_right (by rw [hw, Nat.mul_succ]; omega), hw, hskip, ih hi]

theorem fieldAt_one (h : xs[i]? = some b) : fieldAt xs i 1 = b.toNat := by
  induction xs generalizing i with
  | nil => simp at h
  | cons c xs ih =>
    cases i with
    | zero =>
      rw [List.getElem?_cons_zero, Option.some.injEq] at h
      rw [fieldAt_cons_zero, h]
    | succ i => rw [fieldAt_cons_succ, ih h]

end

@[simp] theorem toNat_byteOf (n : Nat) : (byteOf n).toNat = n % 256 := by simp [byteOf]

/-! What the scan finds in a written record (R147, R151) -/

theorem written_sound (r : StoreRecord) (body : List Byte) : (r.written body).sound = true := by
  simp [StoreRecord.sound, StoreRecord.written]

theorem written_found {r : StoreRecord} {body : SlotBody} {bytes : List Byte} (hmarks : 1 ≤ r.marks)
    (hbody : slotBodyOf bytes = some body) : (r.written bytes).found = body.image := by
  have hspent : (r.written bytes).marks ≠ 0 := Nat.one_le_iff_ne_zero.mp hmarks
  have hbytes : slotBodyOf (r.written bytes).body = some body := hbody
  simp only [StoreRecord.found, if_neg hspent, written_sound, if_true, hbytes]

theorem filledOf_bytes {b : FilledBody} (hplot : b.plot < 65536) (hprovider : b.provider < 256)
    (hoffset : b.offset < 256) (hdelay : b.delay < 65536) (hseq : b.seq < 16777216) :
    filledOf (SlotBody.filled b).bytes = b := by
  have hserial : b.serial.toNat < 281474976710656 := b.serial.isLt
  simp [filledOf, SlotBody.bytes, Nat.mod_eq_of_lt, *]

theorem slotBodyOf_filled {b : FilledBody} (hrange : b.inRange = true) (hseq : b.seq < 2 ^ 24) :
    slotBodyOf (SlotBody.filled b).bytes = some (.filled b) := by
  have hfilled : filledOf (SlotBody.filled b).bytes = b := by
    simp only [FilledBody.inRange, Bool.and_eq_true, decide_eq_true_eq] at hrange
    exact filledOf_bytes (by omega) (by omega) (by omega) (by omega) hseq
  have hkind : fieldAt (SlotBody.filled b).bytes 0 1 = 1 := by simp [SlotBody.bytes]
  rw [slotBodyOf, if_neg (by rw [hkind]; decide), if_pos hkind, hfilled, if_pos hrange]

theorem slotBodyOf_empty {n : Nat} (hlow : 1 ≤ n) (hhigh : n < 2 ^ 24) :
    slotBodyOf (SlotBody.empty n).bytes = some (.empty n) := by
  have hkind : fieldAt (SlotBody.empty n).bytes 0 1 = 0 := by simp [SlotBody.bytes]
  have hseq : fieldAt (SlotBody.empty n).bytes 13 3 = n := by
    simp only [SlotBody.bytes, List.cons_append, List.nil_append, fieldAt_cons_succ]
    rw [fieldAt_skip_beBytes (by decide), fieldAt_beBytes]
    exact Nat.mod_eq_of_lt hhigh
  rw [slotBodyOf, if_pos hkind, hseq, if_pos hlow]

/-! The header (R148) -/

theorem settingsBytes_field (st : Settings) {i : Nat} {k : Setting} (hk : settingOrder[i]? = some k)
    (ys : List Byte) : fieldAt (st.bytes ++ ys) (2 * i) 2 = st.value k % 65536 := by
  have h := fieldAt_flatMap (f := fun k => beBytes 2 (st.value k)) (ys := ys) (o := 0) (n := 2) (fun _ => length_beBytes 2 _)
    hk le_rfl
  rw [Nat.add_zero] at h
  exact h.trans fieldAt_beBytes

theorem length_settingsBytes (st : Settings) : st.bytes.length = 32 :=
  length_flatMap_const (fun _ => length_beBytes 2 _) settingOrder

theorem headerBytes_estate (st : Settings) (n : BitVec 32) : fieldAt (headerBytes st n) 32 4 = n.toNat := by
  have hbound : n.toNat < 4294967296 := n.isLt
  rw [headerBytes, fieldAt_append_right (by rw [length_settingsBytes]), length_settingsBytes, fieldAt_beBytes]
  exact Nat.mod_eq_of_lt hbound

/-- One setting taken over from other settings. -/
def Settings.copy (base st : Settings) : Setting → Settings
  | .openPeriod => { base with openPeriod := st.openPeriod }
  | .stepWidth => { base with stepWidth := st.stepWidth }
  | .acceptLow => { base with acceptLow := st.acceptLow }
  | .acceptHigh => { base with acceptHigh := st.acceptHigh }
  | .span => { base with span := st.span }
  | .divisor => { base with divisor := st.divisor }
  | .silenceLimit => { base with silenceLimit := st.silenceLimit }
  | .lease => { base with lease := st.lease }
  | .ageLimit => { base with ageLimit := st.ageLimit }
  | .providers => { base with providers := st.providers }
  | .record => { base with record := st.record }
  | .recovery => { base with recovery := st.recovery }
  | .tolerance => { base with tolerance := st.tolerance }
  | .alarm => { base with alarm := st.alarm }
  | .monitorMode => { base with monitorMode := st.monitorMode }
  | .startMode => { base with startMode := st.startMode }

theorem copy_value (base st : Settings) (k l : Setting) :
    (base.copy st k).value l = if l = k then st.value l else base.value l := by
  cases k <;> cases l <;> rfl

theorem settings_eq_of_values {a b : Settings} (h : ∀ k, a.value k = b.value k) : a = b := by
  have hrecovery : a.recovery = b.recovery := by
    have := h .recovery
    cases ha : a.recovery <;> cases hb : b.recovery <;> simp_all [Settings.value]
  have htolerance : a.tolerance = b.tolerance := by
    have := h .tolerance
    cases ha : a.tolerance <;> cases hb : b.tolerance <;> simp_all [Settings.value]
  have hstart : a.startMode = b.startMode := by
    have := h .startMode
    cases ha : a.startMode <;> cases hb : b.startMode <;> simp_all [Settings.value]
  cases a
  cases b
  simp only [Settings.mk.injEq]
  exact ⟨h .openPeriod, h .stepWidth, h .acceptLow, h .acceptHigh, h .span, h .divisor, h .silenceLimit, h .lease,
    h .ageLimit, BitVec.eq_of_toNat_eq (h .providers), BitVec.eq_of_toNat_eq (h .record), hrecovery, htolerance,
    value_alarm_injective (h .alarm), value_monitorMode_injective (h .monitorMode), hstart⟩

/-- A value that the settings would take is taken by settings with as wide an accept window, and is below 65536. -/
theorem put_value_copy {base st : Settings} {k : Setting} (hk : st.put k (st.value k) = some st)
    (hlow : k = .acceptLow → st.acceptHigh ≤ base.acceptHigh) (hhigh : k = .acceptHigh → base.acceptLow ≤ st.acceptLow) :
    base.put k (st.value k) = some (base.copy st k) ∧ st.value k < 65536 := by
  cases k with
  | openPeriod | span | silenceLimit | lease | ageLimit =>
    simp only [Settings.put, Option.map_eq_some_iff, inRange_eq_some] at hk ⊢
    obtain ⟨_, ⟨hrange, rfl⟩, -⟩ := hk
    exact ⟨⟨_, ⟨hrange, rfl⟩, rfl⟩, by omega⟩
  | acceptLow =>
    have := hlow rfl
    simp only [Settings.put, Option.map_eq_some_iff, inRange_eq_some] at hk ⊢
    obtain ⟨_, ⟨hrange, rfl⟩, -⟩ := hk
    exact ⟨⟨_, ⟨by omega, rfl⟩, rfl⟩, by omega⟩
  | acceptHigh =>
    have := hhigh rfl
    simp only [Settings.put, Option.map_eq_some_iff, inRange_eq_some] at hk ⊢
    obtain ⟨_, ⟨hrange, rfl⟩, -⟩ := hk
    exact ⟨⟨_, ⟨by omega, rfl⟩, rfl⟩, by omega⟩
  | stepWidth | divisor =>
    simp only [Settings.put, Option.map_eq_some_iff, oneOf_eq_some] at hk ⊢
    obtain ⟨_, ⟨hrange, rfl⟩, -⟩ := hk
    refine ⟨⟨_, ⟨hrange, rfl⟩, rfl⟩, ?_⟩
    simp only [List.mem_cons, List.not_mem_nil, or_false] at hrange
    omega
  | providers | record =>
    simp only [Settings.put, Option.ite_none_right_eq_some] at hk ⊢
    refine ⟨⟨hk.1, ?_⟩, by omega⟩
    simp [Settings.value, Settings.copy]
  | recovery =>
    cases h : st.recovery <;> simp [Settings.put, Settings.value, Settings.copy, h, twoValued]
  | tolerance =>
    cases h : st.tolerance <;> simp [Settings.put, Settings.value, Settings.copy, h, twoValued]
  | alarm =>
    cases h : st.alarm <;> simp [Settings.put, Settings.value, Settings.copy, h, alarmOf]
  | monitorMode =>
    cases h : st.monitorMode <;> simp [Settings.put, Settings.value, Settings.copy, h, twoValued]
  | startMode =>
    cases h : st.startMode <;> simp [Settings.put, Settings.value, Settings.copy, h, twoValued]

/-- The settings of a header come back one after the other, the accept window from its widest (R148). -/
theorem settingsOf_headerBytes {st : Settings} (n : BitVec 32)
    (hk : ∀ k, st.put k (st.value k) = some st) : settingsOf (headerBytes st n) = some st := by
  have field {i : Nat} {k : Setting} (h : settingOrder[i]? = some k) :
      fieldAt (headerBytes st n) (2 * i) 2 = st.value k := by
    rw [headerBytes, settingsBytes_field st h,
      Nat.mod_eq_of_lt (put_value_copy (base := st) (hk k) (fun _ => le_rfl) (fun _ => le_rfl)).2]
  have taken (base : Settings) {i : Nat} {k : Setting} (h : settingOrder[i]? = some k)
      (hlow : k = .acceptLow → st.acceptHigh ≤ base.acceptHigh)
      (hhigh : k = .acceptHigh → base.acceptLow ≤ st.acceptLow) :
      base.put k (fieldAt (headerBytes st n) (2 * i) 2) = some (base.copy st k) := by
    rw [field h, (put_value_copy (hk k) hlow hhigh).1]
  have hwide : st.acceptHigh ≤ 100 := by
    have h := hk .acceptHigh
    simp only [Settings.put, Option.map_eq_some_iff, inRange_eq_some, Settings.value] at h
    obtain ⟨_, ⟨hrange, -⟩, -⟩ := h
    exact hrange.2
  simp only [settingsOf, settingOrder, List.zipIdx_cons, List.zipIdx_nil, List.foldl_cons, List.foldl_nil, Option.bind_some,
    Nat.zero_add, Nat.reduceAdd]
  rw [taken _ (i := 0) (k := .openPeriod) rfl (by simp) (by simp), Option.bind_some,
    taken _ (i := 1) (k := .stepWidth) rfl (by simp) (by simp), Option.bind_some,
    taken _ (i := 2) (k := .acceptLow) rfl (fun _ => hwide) (by simp), Option.bind_some,
    taken _ (i := 3) (k := .acceptHigh) rfl (by simp) (by intro _; exact le_rfl), Option.bind_some,
    taken _ (i := 4) (k := .span) rfl (by simp) (by simp), Option.bind_some,
    taken _ (i := 5) (k := .divisor) rfl (by simp) (by simp), Option.bind_some,
    taken _ (i := 6) (k := .silenceLimit) rfl (by simp) (by simp), Option.bind_some,
    taken _ (i := 7) (k := .lease) rfl (by simp) (by simp), Option.bind_some,
    taken _ (i := 8) (k := .ageLimit) rfl (by simp) (by simp), Option.bind_some,
    taken _ (i := 9) (k := .providers) rfl (by simp) (by simp), Option.bind_some,
    taken _ (i := 10) (k := .record) rfl (by simp) (by simp), Option.bind_some,
    taken _ (i := 11) (k := .recovery) rfl (by simp) (by simp), Option.bind_some,
    taken _ (i := 12) (k := .tolerance) rfl (by simp) (by simp), Option.bind_some,
    taken _ (i := 13) (k := .alarm) rfl (by simp) (by simp), Option.bind_some,
    taken _ (i := 14) (k := .monitorMode) rfl (by simp) (by simp), Option.bind_some,
    taken _ (i := 15) (k := .startMode) rfl (by simp) (by simp)]
  refine congrArg some (settings_eq_of_values fun l => ?_)
  simp only [copy_value]
  cases l <;> rfl

/-- Settles O28: the bytes of a body give the body back, and so do those of a header. -/
theorem storeGivesBackWhatWasWritten : Obligations.StoreGivesBackWhatWasWritten := by
  refine ⟨fun r hmarks => ⟨fun b hrange hseq => written_found hmarks (slotBodyOf_filled hrange hseq),
    fun n hlow hhigh => written_found hmarks (slotBodyOf_empty hlow hhigh), ?cut, rfl⟩, fun r st n hk => ?header⟩
  case cut =>
    have hspent : r.marks ≠ 0 := Nat.one_le_iff_ne_zero.mp hmarks
    simp [StoreRecord.found, StoreRecord.sound, hspent]
  case header =>
    have hbody : (r.written (headerBytes st n)).body = headerBytes st n := rfl
    rw [StoreRecord.headerBody, if_pos (written_sound r _), hbody, settingsOf_headerBytes n hk, headerBytes_estate]
    simp

end Sys2Proof.Machine

/-! PROOFS. The read-outs, byte by byte (R184, 12.3). -/

namespace Sys2Proof.Machine

/-! Flags as a bit map (R184) -/

theorem flagBits_testBit (fs : List Bool) (i : Nat) : (flagBits fs).testBit i = fs.getD i false := by
  induction fs generalizing i with
  | nil => simp [flagBits]
  | cons f fs ih =>
    cases i with
    | zero => cases f <;> simp [flagBits]
    | succ i =>
      have hhalf : (f.toNat + 2 * flagBits fs) / 2 = flagBits fs := by
        have hflag : f.toNat < 2 := f.toNat_lt
        omega
      rw [flagBits, Nat.testBit_succ, hhalf, ih]
      rfl

theorem flagBits_lt (fs : List Bool) : flagBits fs < 2 ^ fs.length := by
  induction fs with
  | nil => simp [flagBits]
  | cons f fs ih =>
    rw [flagBits, List.length_cons, pow_succ]
    have hflag : f.toNat < 2 := f.toNat_lt
    omega

theorem byteOf_flagBits_getLsbD {fs : List Bool} (h : fs.length ≤ 8) (i : Nat) :
    (byteOf (flagBits fs)).getLsbD i = fs.getD i false := by
  rw [byteOf, BitVec.getLsbD_ofNat, flagBits_testBit]
  by_cases hi : i < 8
  · simp [hi]
  · simp [List.getElem?_eq_none (show fs.length ≤ i by omega)]

theorem byteOf_flagBits_getElem {fs : List Bool} (h : fs.length ≤ 8) {i : Nat} (hi : i < 8) :
    (byteOf (flagBits fs))[i] = fs.getD i false := by
  rw [← BitVec.getLsbD_eq_getElem, byteOf_flagBits_getLsbD h]

theorem toNat_byteOf_flagBits {fs : List Bool} (h : fs.length ≤ 8) : (byteOf (flagBits fs)).toNat = flagBits fs :=
  byteOf_toNat (Nat.lt_of_lt_of_le (flagBits_lt fs) (Nat.pow_le_pow_right (by decide) h))

/-! Codes in one byte -/

theorem entryState_code_lt (st : EntryState) : st.code < 256 := by cases st <;> decide

theorem lastResult_code_lt (r : LastResult) : r.code < 256 := by cases r <;> decide

theorem storeStatus_code_lt (st : StoreStatus) : st.code < 256 := by cases st <;> decide

theorem offsetSource_code_lt (src : OffsetSource) : src.code < 256 := by cases src <;> decide

theorem jobCode_lt (st : Option Stage) : jobCode st < 256 := by
  cases st with
  | none => decide
  | some st => cases st <;> decide

theorem jobKind_code_lt (k : JobKind) : k.code < 256 := by cases k <;> decide

theorem stage_code_lt (st : Stage) : st.code < 256 := by cases st <;> decide

theorem requester_code_lt (q : Requester) : q.code < 256 := by
  cases q with
  | port p => cases p <;> decide
  | roster => decide

theorem window_code_lt (w : Window) : w.code < 256 := by cases w <;> decide

theorem owner_code_lt (o : Owner) : o.code < 256 := by
  cases o with
  | port p => cases p <;> decide
  | binding b => rw [Owner.code]; omega

theorem mode_code_lt (m : Mode) : m.code < 256 := by cases m <;> decide

theorem monitor_code_lt (m : MonitorState) : m.code < 256 := by cases m <;> decide

theorem slotImage_code_lt (i : SlotImage) : i.code < 256 := by cases i <;> simp [SlotImage.code]

theorem headerImage_code_lt (i : HeaderImage) : i.code < 256 := by cases i <;> decide

theorem portCode_lt (p : Port) : portCode p < 256 := by cases p <;> decide

/-! Parts of the read-outs -/

theorem tagBit_toNat (t : BitVec 3) : (tagBit t).toNat = 2 ^ t.toNat := by
  revert t
  decide

theorem resetCauses_byte_toNat (c : ResetCauses) :
    c.byte.toNat = c.powerOn.toNat + 2 * c.supply.toNat + 4 * c.pin.toNat + 8 * c.command.toNat := by
  have hlength : [c.powerOn, c.supply, c.pin, c.command].length ≤ 8 := by simp
  rw [ResetCauses.byte, toNat_byteOf_flagBits hlength]
  simp only [flagBits]
  ring

theorem flagBits_mod_lt {fs : List Bool} {n : Nat} (h : fs.length ≤ n) : flagBits fs % 256 < 2 ^ n :=
  Nat.lt_of_le_of_lt (Nat.mod_le _ _) (Nat.lt_of_lt_of_le (flagBits_lt fs) (Nat.pow_le_pow_right (by decide) h))

theorem serial_lt (n : Serial) : n.toNat < 281474976710656 := n.isLt

theorem steps_lt (n : Steps) : n.toNat < 65536 := Nat.lt_trans n.isLt (by decide)

theorem portCode_fieldPort (f : FieldPort) : portCode f.port % 256 = if f = .field1 then 1 else 2 := by cases f <;> rfl

theorem length_arrivalBytes (a : Arrival) : a.bytes.length = 13 := rfl

theorem length_jobBytes (j : Job) : j.bytes.length = 5 := rfl

/-- A field of record `i`, after the first bytes of a read-out and before the last. -/
theorem fieldAt_record {α : Type} {f : α → List Byte} {l : List α} {a : α} {w i o n p : Nat} {pre ys : List Byte}
    (hw : ∀ a, (f a).length = w) (hi : l[i]? = some a) (ho : o + n ≤ w) (hp : pre.length = p) :
    fieldAt (pre ++ (l.flatMap f ++ ys)) (p + w * i + o) n = fieldAt (f a) o n := by
  have hskip : p + w * i + o - p = w * i + o := by omega
  rw [fieldAt_append_right (by rw [hp]; omega), hp, hskip, fieldAt_flatMap hw hi ho]

/-- A field after the records of a read-out. -/
theorem fieldAt_after_records {α : Type} {f : α → List Byte} {l : List α} {w o n p : Nat} {pre ys : List Byte}
    (hw : ∀ a, (f a).length = w) (hp : pre.length = p) :
    fieldAt (pre ++ (l.flatMap f ++ ys)) (p + w * l.length + o) n = fieldAt ys o n := by
  have hlength : (l.flatMap f).length = w * l.length := length_flatMap_const hw l
  have hskip : p + w * l.length + o - p - w * l.length = o := by omega
  rw [fieldAt_append_right (by rw [hp]; omega), hp, fieldAt_append_right (by rw [hlength]; omega), hlength, hskip]

/-- The rejoin pending flag of a drop in the pending map of its branch. -/
theorem dropsOf_getElem (d : Drop) : (dropsOf d.branch)[d.val % 16]? = some d := by
  revert d
  decide

theorem length_dropsOf (b : Branch) : (dropsOf b).length = 16 := by
  revert b
  decide

theorem pendingMap_testBit (s : State) (d : Drop) :
    (flagBits ((dropsOf d.branch).map fun e => (s.entry e).rejoinPending) % 65536).testBit (d.val % 16) =
      (s.entry d).rejoinPending := by
  have hlt := flagBits_lt ((dropsOf d.branch).map fun e => (s.entry e).rejoinPending)
  rw [List.length_map, length_dropsOf] at hlt
  have hword : flagBits ((dropsOf d.branch).map fun e => (s.entry e).rejoinPending) % 65536 =
      flagBits ((dropsOf d.branch).map fun e => (s.entry e).rejoinPending) := Nat.mod_eq_of_lt hlt
  rw [hword, flagBits_testBit, List.getD_eq_getElem?_getD, List.getElem?_map, dropsOf_getElem]
  rfl

/-- The claimed drops with their claims, as the claims read-out lists them (R141). -/
def State.heldClaims (s : State) : List (Drop × Claim) := allDrops.filterMap fun d => (s.claim d).map fun c => (d, c)

theorem heldClaims_drops (s : State) :
    s.heldClaims.map Prod.fst = allDrops.filter fun d => (s.claim d).isSome := by
  unfold State.heldClaims
  induction allDrops with
  | nil => rfl
  | cons d l ih => cases h : s.claim d <;> simp [h, ih]

theorem heldClaims_getElem {s : State} {i : Nat} {d : Drop} {c : Claim}
    (hi : (allDrops.filter fun d => (s.claim d).isSome)[i]? = some d) (hclaim : s.claim d = some c) :
    s.heldClaims[i]? = some (d, c) := by
  rw [← heldClaims_drops, List.getElem?_map, Option.map_eq_some_iff] at hi
  obtain ⟨⟨e, v⟩, hget, rfl⟩ := hi
  obtain ⟨d', -, hd'⟩ := List.mem_filterMap.mp (List.mem_of_getElem? hget)
  obtain ⟨v', hv', heq⟩ := Option.map_eq_some_iff.mp hd'
  cases heq
  rw [hget, Option.some.inj (hv'.symm.trans hclaim)]

theorem length_heldClaims_le (s : State) : s.heldClaims.length ≤ 64 := by
  have h := List.length_filterMap_le (fun d => (s.claim d).map fun c => (d, c)) allDrops
  exact h.trans (by simp [allDrops])

theorem length_markBytes (m : BitVec 64) : (markBytes m).length = 8 := by simp [markBytes]

theorem markBytes_testBit (m : BitVec 64) (d : Drop) (ys : List Byte) :
    (fieldAt (markBytes m ++ ys) (d.val / 8) 1).testBit (d.val % 8) = m.getLsbD d.val := by
  have hbyte : (markBytes m ++ ys)[d.val / 8]? = some ((m >>> (8 * (d.val / 8))).truncate 8) := by
    rw [List.getElem?_append_left (by rw [length_markBytes]; omega), markBytes, List.getElem?_map,
      List.getElem?_range (by omega)]
    rfl
  have hbit : 8 * (d.val / 8) + d.val % 8 = d.val := Nat.div_add_mod ..
  rw [fieldAt_one hbyte, BitVec.testBit_toNat, BitVec.truncate, BitVec.getLsbD_setWidth, BitVec.getLsbD_ushiftRight, hbit]
  simp [Nat.mod_lt]

theorem claimCount_lt (s : State) (f : FieldPort) : s.claimCount f < 256 := by
  have h := List.length_filter_le (s.holds f) allDrops
  have hall : allDrops.length = 64 := List.length_finRange
  rw [claimCount_eq]
  omega

/-- One claimed drop of the claims read-out. -/
def claimRecord (p : Drop × Claim) : List Byte :=
  [byteOf p.1.val, byteOf (portCode p.2.holder.port), byteOf p.2.lease]

theorem controller_bytes (c : Controller) : ∃ w v : Byte, c.bytes = [w, v] ∧
    (c.isWriting = false → w.toNat = 0 ∧ v.toNat = 0) ∧
    (∀ d body, c = .writing (.slot d body) → w.toNat = 1 ∧ v.toNat = d.val) ∧
    ∀ st e, c = .writing (.header st e) → w.toNat = 2 ∧ v.toNat = 0 := by
  cases c with
  | scanning | idle => exact ⟨0, 0, rfl, by simp⟩
  | writing w =>
    cases w with
    | header st e => exact ⟨2, 0, rfl, by simp [Controller.isWriting]⟩
    | slot d body =>
      have hdrop : d.val % 256 = d.val := Nat.mod_eq_of_lt (by omega)
      refine ⟨1, byteOf d.val, rfl, by simp [Controller.isWriting], ?_, by simp⟩
      rintro e body' ⟨⟩
      exact ⟨rfl, (toNat_byteOf _).trans hdrop⟩

theorem length_slotImageBytes (i : SlotImage) : i.bytes.length = 15 := by cases i <;> simp [SlotImage.bytes]

theorem length_headerShown (s : State) : s.headerShown.length = 5 := by
  unfold State.headerShown
  split <;> simp

/-- Settles O5: the codes are read off their definitions; of each read-out the fields are taken one by one, those of a
list by `fieldAt_record`. -/
theorem readOutLayout : Obligations.ReadOutLayout := by
  refine ⟨?codes, fun s d => ?entry, fun s b => ?arrivals, fun s b => ?queue, fun s g => ?gen, fun s b => ?lane,
    fun s => ?claims, fun s => ?unknown, fun s => ?settings, fun s => ?supply, fun s n => ?store, fun s p => ?identity⟩
  case codes =>
    refine ⟨rfl, rfl, rfl, rfl, rfl, rfl, rfl, fun n f => rfl, rfl, rfl, rfl, rfl, rfl, rfl, rfl, fun p => rfl, fun b => rfl,
      rfl, rfl, tagBit_toNat, resetCauses_byte_toNat, rfl, fun st => ?_, rfl⟩
    refine ⟨?_, ?_, rfl, ?_, ?_, rfl, rfl, rfl, rfl, rfl, rfl, rfl, rfl, rfl, rfl, rfl⟩
    · cases h : st.recovery <;> simp [Settings.value, h]
    · cases h : st.tolerance <;> simp [Settings.value, h]
    · cases h : st.monitorMode <;> simp [Settings.value, h]
    · cases h : st.startMode <;> simp [Settings.value, h]
  case entry =>
    have hdrop : d.val % 256 = d.val := Nat.mod_eq_of_lt (by omega)
    have hbranch : d.branch.val % 256 = d.val / 16 := Nat.mod_eq_of_lt (by omega)
    have hflags {fs : List Bool} (h : fs.length ≤ 4) : flagBits fs % 256 < 16 := flagBits_mod_lt h
    cases hpresence : (s.entry d).presence <;> cases hclaim : s.claim d <;>
      simp +contextual [State.entryBytes, optSerial, optByte, byteOf_flagBits_getElem, presenceBytes, claimBytes, hpresence, hclaim,
        hflags, State.commitCount, serial_lt, hdrop, hbranch, Nat.mod_eq_of_lt, entryState_code_lt, offsetSource_code_lt,
        jobCode_lt, lastResult_code_lt, storeStatus_code_lt, portCode_fieldPort]
  case arrivals =>
    have hbranch : b.val % 256 = b.val := Nat.mod_eq_of_lt (by omega)
    refine ⟨?_, by simp [State.arrivalsBytes, hbranch], by simp [State.arrivalsBytes], by simp [State.arrivalsBytes],
      fun i a hi => ?_⟩
    · rw [State.arrivalsBytes, List.length_append, length_flatMap_const length_arrivalBytes]
      rfl
    · have field {o n : Nat} (ho : o + n ≤ 13) :
          fieldAt (s.arrivalsBytes b) (3 + 13 * i + o) n = fieldAt a.bytes o n := by
        have h := fieldAt_record (pre := [byteOf b.val, byteOf (s.arrivalsOf b).missed,
          byteOf (s.arrivalsOf b).items.length]) (ys := []) length_arrivalBytes hi ho rfl
        rwa [List.append_nil] at h
      have hfirst : fieldAt (s.arrivalsBytes b) (3 + 13 * i) 6 = fieldAt a.bytes 0 6 := field (o := 0) (by decide)
      have htag : a.tag.toNat % 256 = a.tag.toNat := Nat.mod_eq_of_lt (Nat.lt_trans a.tag.isLt (by decide))
      have hflag : a.providerOff.toNat % 256 = a.providerOff.toNat := by cases a.providerOff <;> rfl
      dsimp only
      rw [hfirst, field (by decide), field (by decide), field (by decide), field (by decide), field (by decide),
        field (by decide)]
      simp [Arrival.bytes, Nat.mod_eq_of_lt, serial_lt, steps_lt, htag, flagBits, hflag]
  case queue =>
    have hbranch : b.val % 256 = b.val := Nat.mod_eq_of_lt (by omega)
    have hdue : flagBits [(s.branch b).openDue] % 256 = (s.branch b).openDue.toNat := by
      cases (s.branch b).openDue <;> rfl
    have hbytes : s.queueBytes b = [byteOf b.val, byteOf (s.branch b).window.code,
        byteOf (flagBits [(s.branch b).openDue]), byteOf (s.queue b).length] ++ ((s.queue b).flatMap Job.bytes ++
          beBytes 2 (flagBits ((dropsOf b).map fun d => (s.entry d).rejoinPending))) := List.append_assoc ..
    refine ⟨?_, by simp [hbytes, hbranch], by simp [hbytes, Nat.mod_eq_of_lt, window_code_lt], by simp [hbytes, hdue],
      by simp [hbytes], fun i j hi => ?_, fun d hd => ?_⟩
    · rw [hbytes, List.length_append, List.length_append, length_flatMap_const length_jobBytes, length_beBytes]
      simp only [List.length_cons, List.length_nil]
      omega
    · have field {o n : Nat} (ho : o + n ≤ 5) :
          fieldAt (s.queueBytes b) (4 + 5 * i + o) n = fieldAt j.bytes o n := by
        rw [hbytes]
        exact fieldAt_record length_jobBytes hi ho rfl
      have hfirst : fieldAt (s.queueBytes b) (4 + 5 * i) 1 = fieldAt j.bytes 0 1 := field (o := 0) (by decide)
      have hdrop : j.drop.val % 256 = j.drop.val := Nat.mod_eq_of_lt (by omega)
      dsimp only
      rw [hfirst, field (by decide), field (by decide), field (by decide), field (by decide)]
      simp [Job.bytes, Nat.mod_eq_of_lt, hdrop, jobKind_code_lt, stage_code_lt, requester_code_lt]
    · subst hd
      have hmap : fieldAt (s.queueBytes d.branch) (4 + 5 * (s.queue d.branch).length) 2 =
          flagBits ((dropsOf d.branch).map fun e => (s.entry e).rejoinPending) % 65536 := by
        rw [hbytes]
        exact (fieldAt_after_records (o := 0) length_jobBytes rfl).trans fieldAt_beBytes
      exact hmap ▸ pendingMap_testBit s d
  case gen =>
    have hgen : g.val % 256 = g.val := Nat.mod_eq_of_lt (by omega)
    have hserved : s.lastServed.val % 256 = s.lastServed.val := Nat.mod_eq_of_lt (by omega)
    have htwo (x y : Bool) : flagBits [x, y] % 256 = x.toNat + 2 * y.toNat := by cases x <;> cases y <;> rfl
    have hthree (x y z : Bool) : flagBits [x, y, z] % 256 = x.toNat + 2 * y.toNat + 4 * z.toNat := by
      cases x <;> cases y <;> cases z <;> rfl
    refine ⟨by simp [State.genBytes, optSerial], by simp [State.genBytes, hgen], by simp [State.genBytes, htwo],
      fun h => by simp [State.genBytes, h, optByte], fun d o h => ?_, by simp [State.genBytes, Nat.mod_eq_of_lt, steps_lt],
      by simp [State.genBytes], by simp [State.genBytes, Nat.mod_eq_of_lt, steps_lt], by simp [State.genBytes],
      fun h => by simp [State.genBytes, h, optByte, optSerial], fun n b h => ?_, by simp [State.genBytes, optSerial, hthree], fun b => ?_,
      by simp [State.genBytes, optSerial, hserved]⟩
    · have hdrop : d.val % 256 = d.val := Nat.mod_eq_of_lt (by omega)
      simp [State.genBytes, h, optByte, hdrop, Nat.mod_eq_of_lt, owner_code_lt]
    · have hbranch : b.val % 256 = b.val := Nat.mod_eq_of_lt (by omega)
      simp [State.genBytes, h, optByte, optSerial, hbranch, Nat.mod_eq_of_lt, serial_lt]
    · have hmap : fieldAt (s.genBytes g) 18 1 = flagBits ((allBranches.map fun b => (s.bindingWait b).isSome) ++
          allBranches.map fun b => decide (s.bindingWait b = some .eligible)) := by
        simp only [State.genBytes, optSerial, List.cons_append, List.nil_append, List.append_assoc, fieldAt_cons_succ,
          fieldAt_skip_beBytes, fieldAt_cons_zero, Nat.reduceLeDiff, Nat.reduceSub]
        exact toNat_byteOf_flagBits le_rfl
      rw [hmap, flagBits_testBit, flagBits_testBit]
      fin_cases b <;> exact ⟨rfl, rfl⟩
  case lane =>
    have hbranch : b.val % 256 = b.val := Nat.mod_eq_of_lt (by omega)
    have hclosed : (s.lane b).closed.toNat % 256 = (s.lane b).closed.toNat := by cases (s.lane b).closed <;> rfl
    have hflags : (s.lane b).flags.toNat % 65536 = (s.lane b).flags.toNat :=
      Nat.mod_eq_of_lt (Nat.lt_trans (s.lane b).flags.isLt (by decide))
    simp [State.laneBytes, hbranch, hclosed, hflags]
  case claims =>
    have hfilter : (allDrops.filter fun d => (s.claim d).isSome).length = s.heldClaims.length := by
      rw [← heldClaims_drops, List.length_map]
    have hle := length_heldClaims_le s
    have hn : s.heldClaims.length % 256 = s.heldClaims.length := Nat.mod_eq_of_lt (by omega)
    have hrecord (p : Drop × Claim) : (claimRecord p).length = 3 := rfl
    have hbytes : s.claimsBytes = [byteOf s.heldClaims.length] ++ (s.heldClaims.flatMap claimRecord ++
        (byteOf (s.claimCount .field1) :: byteOf (s.claimCount .field2) ::
          (markBytes s.lapses[FieldPort.field1.index] ++ markBytes s.lapses[FieldPort.field2.index]))) := by
      simp only [State.claimsBytes, List.append_assoc]
      rfl
    have after {o n : Nat} : fieldAt s.claimsBytes (1 + 3 * s.heldClaims.length + o) n =
        fieldAt (byteOf (s.claimCount .field1) :: byteOf (s.claimCount .field2) ::
          (markBytes s.lapses[FieldPort.field1.index] ++ markBytes s.lapses[FieldPort.field2.index])) o n := by
      rw [hbytes]
      exact fieldAt_after_records hrecord rfl
    dsimp only
    rw [hfilter]
    refine ⟨?_, by simp [hbytes, hn], fun i d c hi hclaim => ?_, ?_, ?_, fun d => ⟨?_, ?_⟩⟩
    · rw [hbytes, List.length_append, List.length_append, length_flatMap_const hrecord]
      simp only [List.length_cons, List.length_nil, List.length_append, length_markBytes]
      omega
    · have field {o n : Nat} (ho : o + n ≤ 3) :
          fieldAt s.claimsBytes (1 + 3 * i + o) n = fieldAt (claimRecord (d, c)) o n := by
        rw [hbytes]
        exact fieldAt_record hrecord (heldClaims_getElem hi hclaim) ho rfl
      have hdrop : d.val % 256 = d.val := Nat.mod_eq_of_lt (by omega)
      have hsecond : 2 + 3 * i = 1 + 3 * i + 1 := by omega
      have hthird : 3 + 3 * i = 1 + 3 * i + 2 := by omega
      have hfirst : fieldAt s.claimsBytes (1 + 3 * i) 1 = fieldAt (claimRecord (d, c)) 0 1 := field (o := 0) (by decide)
      rw [hfirst, hsecond, field (by decide), hthird, field (by decide)]
      simp [claimRecord, hdrop, portCode_fieldPort]
    · rw [← Nat.add_zero (1 + 3 * s.heldClaims.length), after, fieldAt_cons_zero, byteOf_toNat (claimCount_lt s _)]
    · have h : 2 + 3 * s.heldClaims.length = 1 + 3 * s.heldClaims.length + 1 := by omega
      rw [h, after, fieldAt_cons_succ, fieldAt_cons_zero, byteOf_toNat (claimCount_lt s _)]
    · have h : 3 + 3 * s.heldClaims.length + d.val / 8 = 1 + 3 * s.heldClaims.length + (d.val / 8 + 1 + 1) := by omega
      rw [h, after, fieldAt_cons_succ, fieldAt_cons_succ, markBytes_testBit, lapsed_eq]
    · have h : 11 + 3 * s.heldClaims.length + d.val / 8 = 1 + 3 * s.heldClaims.length + (8 + d.val / 8 + 1 + 1) := by omega
      have hskip : 8 + d.val / 8 - 8 = d.val / 8 := by omega
      have hlast := markBytes_testBit s.lapses[FieldPort.field2.index] d []
      rw [List.append_nil] at hlast
      rw [h, after, fieldAt_cons_succ, fieldAt_cons_succ, fieldAt_append_right (by rw [length_markBytes]; omega),
        length_markBytes, hskip, hlast, lapsed_eq]
  case unknown =>
    have hbytes : s.unknownBytes = [unknownByte s.unknown.entries[0], unknownByte s.unknown.entries[1],
        unknownByte s.unknown.entries[2], unknownByte s.unknown.entries[3], byteOf s.unknown.overflow.toNat] := rfl
    have hoverflow : s.unknown.overflow.toNat % 256 = s.unknown.overflow.toNat := by cases s.unknown.overflow <;> rfl
    have field (i : Fin 4) : fieldAt s.unknownBytes i.val 1 = (unknownByte s.unknown.entries[i]).toNat := by
      fin_cases i <;> simp [hbytes]
    refine ⟨rfl, fun i => ⟨fun h => ?_, fun b k h => ?_⟩, by simp [hbytes, hoverflow]⟩
    · rw [field, h]
      rfl
    · have hkind : k.toNat < 16 := k.isLt
      rw [field, h, unknownByte, byteOf_toNat (by omega)]
  case settings =>
    have hestate : s.estateId.toNat % 4294967296 = s.estateId.toNat := Nat.mod_eq_of_lt s.estateId.isLt
    have hunsaved : s.unsaved.toNat % 256 = s.unsaved.toNat := by cases s.unsaved <;> rfl
    have hbytes : s.settingsBytes = s.settings.bytes ++ (beBytes 4 s.estateId.toNat ++ [byteOf s.unsaved.toNat]) :=
      List.append_assoc ..
    refine ⟨by simp [hbytes, length_settingsBytes], fun i k hk => ?_, ?_, ?_⟩
    · rw [hbytes, settingsBytes_field s.settings hk]
    · rw [hbytes, fieldAt_append_right (by rw [length_settingsBytes]), length_settingsBytes]
      simp [hestate]
    · rw [hbytes, fieldAt_append_right (by rw [length_settingsBytes]; decide), length_settingsBytes]
      simp [hunsaved]
  case supply =>
    have halarm : s.settings.value .alarm < 256 := by cases h : s.settings.alarm <;> simp [Settings.value, h]
    have hmode : s.settings.value .monitorMode < 256 := by cases h : s.settings.monitorMode <;> simp [Settings.value, h]
    have hlevel : s.settings.alarm.threshold + 6 < 256 := by cases s.settings.alarm <;> decide
    have hrecovery : (s.settings.alarm.threshold + 2) % 256 = s.settings.alarm.threshold + 2 := Nat.mod_eq_of_lt (by omega)
    have hcommit : (s.settings.alarm.threshold + 6) % 256 = s.settings.alarm.threshold + 6 := Nat.mod_eq_of_lt (by omega)
    have halarm' : s.settings.alarm.threshold % 256 = s.settings.alarm.threshold := Nat.mod_eq_of_lt (by omega)
    cases hcontroller : s.controller <;>
      simp [State.supplyBytes, Nat.mod_eq_of_lt, halarm, hmode, AlarmLevel.recovery, AlarmLevel.commit, hrecovery, hcommit,
        halarm', monitor_code_lt, mode_code_lt, Controller.isWriting, hcontroller]
  case store =>
    obtain ⟨w, v, hbytes, hidle, hslot, hheader⟩ := controller_bytes s.controller
    cases n with
    | slot d =>
      have hdrop : d.val % 256 = d.val := Nat.mod_eq_of_lt (by omega)
      have hall : s.storeBytes (.slot d) = byteOf d.val :: byteOf (s.slot d).marks :: byteOf (s.image d).code :: w :: v ::
          (beBytes 2 s.nextSeq ++ (s.image d).bytes) := by
        simp [State.storeBytes, hbytes, State.commitCount]
      refine ⟨by simp [hall, hdrop], by simp [hall], by simp [hall, Nat.mod_eq_of_lt, slotImage_code_lt],
        fun h => by simp [hall, hidle h], fun e body h => by simp [hall, hslot e body h],
        fun st e h => by simp [hall, hheader st e h], by simp [hall], fun h => (nomatch h), fun e he => ?_⟩
      cases he
      refine ⟨by simp [hall, length_slotImageBytes], fun b h => ?_, fun q h => ?_, fun h => ?_⟩
      · simp [hall, h, SlotImage.bytes, Nat.mod_eq_of_lt, serial_lt]
      · simp [hall, h, SlotImage.bytes]
      · rcases h with h | h <;> simp [hall, h, SlotImage.bytes]
    | header =>
      have hall : s.storeBytes .header = 0xFF :: byteOf s.header.marks :: byteOf s.headerImage.code :: w :: v ::
          (beBytes 2 s.nextSeq ++ s.headerShown) := by
        simp [State.storeBytes, hbytes]
      refine ⟨by simp [hall], by simp [hall], by simp [hall, Nat.mod_eq_of_lt, headerImage_code_lt],
        fun h => by simp [hall, hidle h], fun e body h => by simp [hall, hslot e body h],
        fun st e h => by simp [hall, hheader st e h], by simp [hall], fun _ => ⟨?_, fun st e hgood hbody => ?_, fun h => ?_⟩,
        fun e he => nomatch he⟩
      · simp [hall, length_headerShown]
      · have hstart : st.value .startMode % 256 = st.value .startMode := by
          cases h : st.startMode <;> simp [Settings.value, h]
        have hestate : e.toNat < 4294967296 := e.isLt
        simp [hall, State.headerShown, hgood, hbody, Nat.mod_eq_of_lt, hestate, hstart]
      · have hnone : s.headerShown = beBytes 4 0 ++ [0] := by
          unfold State.headerShown
          split
          next hgood _ => exact absurd hgood h
          next => rfl
        simp [hall, hnone]
  case identity =>
    have hestate : s.estateId.toNat < 4294967296 := s.estateId.isLt
    have hrun : s.isRunning.toNat % 256 = if s.startup = .running then 1 else 0 := by
      unfold State.isRunning
      split <;> simp [*]
    simp [State.identityBytes, Nat.mod_eq_of_lt, hestate, portCode_lt, hrun]

end Sys2Proof.Machine

/-! PROOFS. Observed sequences, lines and echoes (R25, R108, R119, R120), and how a branch starts its head job and grants
its window (R36 to R39, R48, R116). -/

namespace Sys2Proof.Machine

/-! Observed sequences and lines -/

theorem observedOf_lit (pattern : Steps) {l step : Nat} (hl : l ∈ [8, 9, 10, 12]) (hlow : 1 ≤ step)
    (hhigh : step ≤ 12) : Steps.lit (observedOf pattern l) step = (decide (step ≤ l) && Steps.lit pattern step) := by
  have hmask : ∀ l ∈ [8, 9, 10, 12], ∀ i : Fin 12, (firstSteps l).getLsbD i.val = decide (12 - i.val ≤ l) := by decide
  have hbit : (firstSteps l).getLsbD (12 - step) = decide (step ≤ l) := by
    rw [hmask l hl ⟨12 - step, by omega⟩]
    exact congrArg (fun k : Nat => decide (k ≤ l)) (Nat.sub_sub_self hhigh)
  rw [Steps.lit, observedOf, BitVec.getLsbD_and, hbit, Bool.and_comm]
  rfl

section
variable {s : State} {d : Drop}

theorem emitter_stopped (h : s.frame = none) : s.emitter d = false := by
  rw [State.emitter, h]

theorem lamp_stopped (h : s.frame = none) : s.lamp d = false := by
  rw [State.lamp, h]

theorem emitter_running {f : FrameTimer} (h : s.frame = some f) :
    s.emitter d = (s.genOn d).elim false fun g => Steps.lit (s.gen g).observed f.step := by
  rw [State.emitter, h]
  cases s.genOn d <;> rfl

theorem lamp_running {f : FrameTimer} (h : s.frame = some f) : s.lamp d =
    (s.genOn d).elim ((s.entry d).state.lampAt f.step) fun g => Steps.lit (s.gen g).observed f.step := by
  rw [State.lamp, h]
  cases s.genOn d <;> rfl

end

/-! Echoes -/

theorem echo_take_eq (e : EchoRecord) (d : Drop) (n : Serial) (b : Branch) (bound : Option Drop) : e.take d n b bound = {
    count := min 255 (e.count + 1)
    first := e.first.or (some (n, b))
    wrongBranch := e.wrongBranch || decide (b.val ≠ d.val / 16)
    boundElsewhere := e.boundElsewhere || decide (bound ≠ none ∧ bound ≠ some d)
    multiple := e.multiple || decide (∃ f ∈ e.first, f.1 ≠ n) } := by
  have hbranch : decide (b ≠ d.branch) = decide (b.val ≠ d.val / 16) := by
    simp only [ne_eq, Fin.ext_iff, Drop.branch]
  have hbound : (bound.isSome && decide (bound ≠ some d)) = decide (bound ≠ none ∧ bound ≠ some d) := by
    cases bound <;> simp
  rw [EchoRecord.take, hbranch, hbound]
  cases e.first <;> simp [satInc, Config.countTop]

/-- The observed sequences of the attached generators are distinct, so the generator whose sequence was observed is the
one that takes the echo (R118). -/
theorem takeEcho_of_only {s : State} {g : Gen} {d : Drop} {o : Owner} {obs : Steps} (n : Serial) (b : Branch)
    (bound : Option Drop) (hattached : (s.gen g).attached = some (d, o)) (hobserved : (s.gen g).observed = obs)
    (honly : ∀ h, (s.gen h).attached.isSome = true → (s.gen h).observed = obs → h = g) :
    s.takeEcho n b obs bound = s.setGen g { s.gen g with echo := (s.gen g).echo.take d n b bound } := by
  have hfound : (allGens.find? fun g => (s.gen g).attached.isSome && (s.gen g).observed = obs) = some g := by
    refine find?_finRange_eq_some.mpr ⟨by simp [hattached, hobserved], fun h hlt => ?_⟩
    rw [Bool.eq_false_iff]
    intro hother
    rw [Bool.and_eq_true, decide_eq_true_iff] at hother
    exact absurd (honly h hother.1 hother.2) (Fin.ne_of_lt hlt)
  simp only [State.takeEcho, hfound, hattached]

/-- Settles O22. -/
theorem sequencesLinesAndEchoes : Obligations.SequencesLinesAndEchoes := by
  refine ⟨fun pattern l step hl hlow hhigh => observedOf_lit pattern hl hlow hhigh,
    fun s d => ⟨fun hstopped => ⟨emitter_stopped hstopped, lamp_stopped hstopped⟩, fun f hframe => ⟨fun g hg => ?on,
      fun hoff => ?off⟩⟩,
    fun s g d o n b obs bound hattached hobserved honly => ?echo⟩
  case on => rw [emitter_running hframe, lamp_running hframe, hg]; exact ⟨rfl, rfl⟩
  case off => rw [emitter_running hframe, lamp_running hframe, hoff]; exact ⟨rfl, by cases (s.entry d).state <;> rfl⟩
  case echo =>
    dsimp only
    rw [takeEcho_of_only n b bound hattached hobserved honly, echo_take_eq]

/-! The start of a head job (R39) -/

theorem setBranch_setBranch (s : State) (b : Branch) (v w : BranchCtl) :
    (s.setBranch b v).setBranch b w = s.setBranch b w := by
  simp only [State.setBranch, Vector.set_set]

section
variable {s : State} {b : Branch} {j : Job} {js : List Job}

theorem startHead_stays (hqueue : s.queue b = j :: js) (h : s.mode ≠ .live ∨ j.stage ≠ .waiting) : s.startHead b = s := by
  have hno : ¬(s.mode = .live ∧ j.stage = .waiting) := fun hyes => h.elim (· hyes.1) (· hyes.2)
  simp only [State.startHead, hqueue, if_neg hno]

theorem startHead_rejoin (hqueue : s.queue b = j :: js) (hmode : s.mode = .live) (hstage : j.stage = .waiting)
    (hkind : j.kind = .rejoin) : s.startHead b =
      (s.setQueue b ({ j with stage := .range, attempts := 0 } :: js)).setEntry j.drop
        ((s.entry j.drop).enter .ranging) := by
  simp only [State.startHead, hqueue, if_pos (And.intro hmode hstage), hkind]

theorem startHead_activate (hqueue : s.queue b = j :: js) (hmode : s.mode = .live) (hstage : j.stage = .waiting)
    (hkind : j.kind = .activate) : s.startHead b =
      (s.setQueue b ({ j with stage := .waitTrace } :: js)).requestGenerator b := by
  simp only [State.startHead, hqueue, if_pos (And.intro hmode hstage), hkind]

theorem bindingWait_waiting (hqueue : s.queue b = j :: js) (hstage : j.stage = .waitTrace)
    (hmarks : (s.branch b).frameMarks = none) :
    s.bindingWait b = some (if (s.genOn j.drop).isSome then .passedOver else .eligible) := by
  simp only [State.bindingWait, hqueue, if_pos (And.intro hstage hmarks)]

theorem requestGenerator_given {g : Gen} (hqueue : s.queue b = j :: js) (hstage : j.stage = .waitTrace)
    (hmarks : (s.branch b).frameMarks = none) (hoff : s.genOn j.drop = none) (hfree : s.freeGen = some g) :
    s.requestGenerator b = s.giveGenerator b g := by
  simp only [State.requestGenerator, bindingWait_waiting hqueue hstage hmarks, hoff, hfree, Option.isSome_none,
    Bool.false_eq_true, if_false]

theorem requestGenerator_waits (hqueue : s.queue b = j :: js) (hstage : j.stage = .waitTrace)
    (hmarks : (s.branch b).frameMarks = none) (h : s.genOn j.drop ≠ none ∨ s.freeGen = none) :
    s.requestGenerator b = s := by
  simp only [State.requestGenerator, bindingWait_waiting hqueue hstage hmarks]
  rcases h with hon | hbusy
  · rw [if_pos (Option.isSome_iff_ne_none.mpr hon)]
  · rw [hbusy]
    cases s.genOn j.drop <;> rfl

theorem giveGenerator_eq (hqueue : s.queue b = j :: js) (g : Gen) : s.giveGenerator b g =
    { (s.attach g j.drop (.binding b) (bindingCode b) 12).setBranch b { s.branch b with frameMarks := some 0 } with
      lastServed := b } := by
  simp only [State.giveGenerator, hqueue]

end

/-! The grant of the window (R36) -/

section
variable {s : State} {b : Branch}

theorem setHead_eq {j : Job} {js : List Job} (hqueue : s.queue b = j :: js) (f : Job → Job) :
    s.setHead b f = s.setQueue b (f j :: js) := by
  simp only [State.setHead, hqueue]

theorem grant_taken (h : (s.branch b).window ≠ .none) : s.grant b = s := by rw [State.grant, if_neg h]

theorem grant_openCall (hwindow : (s.branch b).window = .none) (hdue : (s.branch b).openDue = true) :
    s.grant b = s.openCall b := by
  rw [State.grant, if_pos hwindow, if_pos hdue]

theorem grant_match {j : Job} {js : List Job} (hwindow : (s.branch b).window = .none)
    (hdue : (s.branch b).openDue = false) (hqueue : s.queue b = j :: js) (hstage : j.stage = .matching) :
    s.grant b = s.matchAttempt b := by
  simp only [State.grant, if_pos hwindow, hdue, hqueue, hstage, Bool.false_eq_true, if_false]

theorem grant_range {j : Job} {js : List Job} (hwindow : (s.branch b).window = .none)
    (hdue : (s.branch b).openDue = false) (hqueue : s.queue b = j :: js) (hstage : j.stage = .range) :
    s.grant b = s.rangeTry b j.drop := by
  simp only [State.grant, if_pos hwindow, hdue, hqueue, hstage, Bool.false_eq_true, if_false]

theorem grant_idle (hwindow : (s.branch b).window = .none) (hdue : (s.branch b).openDue = false)
    (hidle : ∀ j ∈ (s.queue b).head?, j.stage ≠ .matching ∧ j.stage ≠ .range) : s.grant b = s := by
  cases hqueue : s.queue b with
  | nil => simp only [State.grant, if_pos hwindow, hdue, hqueue, Bool.false_eq_true, if_false]
  | cons j js =>
    obtain ⟨hmatching, hrange⟩ := hidle j (by rw [hqueue]; rfl)
    cases hstage : j.stage with
    | matching => exact absurd hstage hmatching
    | range => exact absurd hstage hrange
    | _ => simp only [State.grant, if_pos hwindow, hdue, hqueue, hstage, Bool.false_eq_true, if_false]

theorem matchAttempt_eq {j : Job} {js : List Job} (hqueue : s.queue b = j :: js) : s.matchAttempt b =
    (s.setBranch b { s.branch b with
      queue := { j with attempts := j.attempts + 1 } :: js, window := .matchListen
      listenMs := some (12 * s.frameWidth), decided := none }).sendCall b (.matchCall (bindingCode b)) := by
  simp only [State.matchAttempt, setHead_eq hqueue, State.setQueue, State.setBranch_branch_same, setBranch_setBranch]

theorem rangeTry_eq {j : Job} {js : List Job} {n : Serial} (hqueue : s.queue b = j :: js)
    (hserial : (s.entry j.drop).serial = some n) : s.rangeTry b j.drop =
    ((s.setBranch b { s.branch b with
      queue := { j with attempts := j.attempts + 1 } :: js, window := .rangeListen
      listenMs := some 200, rangeCounter := some ⟨0, false⟩ }).setLane b { s.lane b with
        rx := (s.lane b).rx.map fun r => { r with counter := none } }).sendCall b (.rangeCall n) := by
  simp only [State.rangeTry, setHead_eq hqueue, State.setQueue, State.setBranch_branch_same, setBranch_setBranch, hserial,
    Option.getD_some, State.dropReading, State.setBranch_lane]

end

/-- Settles O17. -/
theorem headStartsAndWindowIsGranted : Obligations.HeadStartsAndWindowIsGranted := by
  refine ⟨fun s b j js hqueue => ⟨startHead_stays hqueue, fun hmode hstage hkind hbound => ?rejoin,
      fun hmode hstage hkind hmarks => ⟨fun g hoff hfree => ?given, fun hwaits => ?waits⟩⟩,
    fun s b => ⟨grant_taken, grant_openCall, fun hwindow hdue => ⟨fun j js hqueue hstage => ?matchCall,
      fun j js n hqueue hstage hserial => ?rangeCall, grant_idle hwindow hdue⟩, rfl⟩⟩
  case rejoin =>
    rw [startHead_rejoin hqueue hmode hstage hkind, Entry.enter, if_neg (by rw [hbound]; decide)]
  case matchCall => rw [grant_match hwindow hdue hqueue hstage, matchAttempt_eq hqueue]
  case rangeCall => rw [grant_range hwindow hdue hqueue hstage, rangeTry_eq hqueue hserial]
  case waits =>
    rw [startHead_activate hqueue hmode hstage hkind]
    refine requestGenerator_waits (j := { j with stage := .waitTrace }) (js := js) ?_ rfl ?_ hwaits
    · rw [State.setQueue_queue, if_pos rfl]
    · rw [State.setQueue, State.setBranch_branch_same]
      exact hmarks
  case given =>
    have hqueue' : (s.setQueue b ({ j with stage := .waitTrace } :: js)).queue b = { j with stage := .waitTrace } :: js := by
      rw [State.setQueue_queue, if_pos rfl]
    have hmarks' : ((s.setQueue b ({ j with stage := .waitTrace } :: js)).branch b).frameMarks = none := by
      rw [State.setQueue, State.setBranch_branch_same]
      exact hmarks
    rw [startHead_activate hqueue hmode hstage hkind, requestGenerator_given hqueue' rfl hmarks' hoff hfree,
      giveGenerator_eq hqueue']
    refine ⟨_, rfl, ?_, State.setGen_gen_same .., fun h hne => State.setGen_gen_ne _ _ _ _ hne.symm, rfl, ?_, rfl⟩
    · exact (congrArg BranchCtl.queue (State.setBranch_branch_same ..)).trans hqueue'
    · exact congrArg BranchCtl.frameMarks (State.setBranch_branch_same ..)

end Sys2Proof.Machine

/-! PROOFS. What checks 1 to 4 find in a burst (R79 to R84). -/

namespace Sys2Proof.Machine

/-! The fields of a header (12.4) -/

section
variable (v : HeaderVerdict) (y9 y10 y11 y12 y13 y14 y15 y16 : Byte)

theorem kind_of_symbols : (Header.mk v (y9 ++ y10 ++ y11 ++ y12 ++ y13 ++ y14 ++ y15 ++ y16)).kind =
    y9.extractLsb' 4 4 := by
  refine BitVec.eq_of_getLsbD_eq fun i hi => ?_
  simp only [Header.kind, BitVec.getLsbD_extractLsb', BitVec.getLsbD_append]
  interval_cases i <;> simp

theorem tag_of_symbols : (Header.mk v (y9 ++ y10 ++ y11 ++ y12 ++ y13 ++ y14 ++ y15 ++ y16)).tag =
    y9.extractLsb' 1 3 := by
  refine BitVec.eq_of_getLsbD_eq fun i hi => ?_
  simp only [Header.tag, BitVec.getLsbD_extractLsb', BitVec.getLsbD_append]
  interval_cases i <;> simp

theorem serial_of_symbols : (Header.mk v (y9 ++ y10 ++ y11 ++ y12 ++ y13 ++ y14 ++ y15 ++ y16)).serial =
    y10 ++ y11 ++ y12 ++ y13 ++ y14 ++ y15 := by
  refine BitVec.eq_of_getLsbD_eq fun i hi => ?_
  simp only [Header.serial, BitVec.getLsbD_extractLsb', BitVec.getLsbD_append]
  interval_cases i <;> simp

theorem length_of_symbols : (Header.mk v (y9 ++ y10 ++ y11 ++ y12 ++ y13 ++ y14 ++ y15 ++ y16)).length = y16 := by
  refine BitVec.eq_of_getLsbD_eq fun i hi => ?_
  simp only [Header.length, BitVec.getLsbD_extractLsb', BitVec.getLsbD_append]
  simp [hi]

end

theorem payloadObservation_symbols (l hi lo : Byte) :
    payloadObservation [l, hi, lo] = hi.extractLsb' 0 4 ++ lo := by
  apply BitVec.eq_of_toNat_eq
  rw [toNat_append_byte]
  simp [payloadObservation, word16]
  omega

/-! The preamble (R80) -/

theorem judgePreamble_good {errors : List Bool} (tol : Tolerance) (h : errors.count true = 0) :
    judgePreamble tol errors = .good := by
  simp only [judgePreamble, h]

theorem judgePreamble_lost {errors : List Bool} (tol : Tolerance) (h : 2 ≤ errors.count true) :
    judgePreamble tol errors = .lost := by
  unfold judgePreamble
  split
  · omega
  · omega
  · rfl

theorem judgePreamble_one {errors : List Bool} (tol : Tolerance) (h : errors.count true = 1) : judgePreamble tol errors =
    if tol = .lenient ∨ (errors.take 6).count true = 1 then .fixed else .lost := by
  simp only [judgePreamble, h]

theorem count_take_add_count_drop (errors : List Bool) :
    (errors.take 6).count true + (errors.drop 6).count true = errors.count true := by
  rw [← List.count_append, List.take_append_drop]

/-! The header (R82) -/

theorem headerBad_iff {v : HeaderVerdict} {kind : BitVec 4} {tag : BitVec 3} {n : Serial} {l : Byte} :
    headerBad ⟨v, headerSymbols kind tag n l⟩ = true ↔ v = .doubleError ∨ n = 0 ∨ 16 < l.toNat ∨
      ∃ k, burstKindOf kind = some k ∧ l.toNat ≠ k.payloadLength := by
  unfold headerBad
  simp only [Bool.or_eq_true, decide_eq_true_eq, serial_headerSymbols, length_headerSymbols, kind_headerSymbols]
  cases burstKindOf kind <;> simp [or_assoc]

theorem inspectHeader_bad {x : Burst} {h : Header} (hx : x.header = some h) (hbad : headerBad h = true) :
    inspectHeader x = ⟨[.headerBad], none⟩ := by
  simp only [inspectHeader, hx, if_pos hbad]

theorem inspectHeader_noError {x : Burst} {y : BitVec 64} (hx : x.header = some ⟨.noError, y⟩)
    (hgood : headerBad ⟨.noError, y⟩ = false) : inspectHeader x = inspectBody ⟨.noError, y⟩ x.body := by
  simp [inspectHeader, hx, hgood]

theorem inspectHeader_corrected {x : Burst} {y : BitVec 64} (hx : x.header = some ⟨.corrected, y⟩)
    (hgood : headerBad ⟨.corrected, y⟩ = false) : inspectHeader x =
      ⟨.headerFixed :: (inspectBody ⟨.corrected, y⟩ x.body).faults, (inspectBody ⟨.corrected, y⟩ x.body).intact⟩ := by
  simp [inspectHeader, hx, hgood]

/-! The payload and its check (R83, R84) -/

theorem inspectBody_short {h : Header} {body : List Byte} (hshort : body.length < h.length.toNat + 2) :
    inspectBody h body = ⟨[.short], none⟩ := by
  simp only [inspectBody, if_pos hshort]

theorem inspectBody_overrun {h : Header} {body : List Byte} (hlong : h.length.toNat + 4 < body.length) :
    inspectBody h body = ⟨[.overrun], none⟩ := by
  have hwhole : ¬body.length < h.length.toNat + 2 := by omega
  simp only [inspectBody, if_neg hwhole, if_pos hlong]

/-- A payload, two symbols read as a check, and up to two symbols of grace. -/
theorem inspectBody_with_check {h : Header} {payload grace : List Byte} (c : BitVec 16)
    (hlen : h.length.toNat = payload.length) (hgrace : grace.length ≤ 2) :
    inspectBody h (payload ++ beBytes 2 c.toNat ++ grace) =
      if crc16 payload = c then ⟨[], some (h, payload)⟩ else ⟨[.checkBad], none⟩ := by
  have hbytes : (payload ++ beBytes 2 c.toNat ++ grace).length = payload.length + 2 + grace.length := by
    simp [beBytes]
    omega
  have hwhole : ¬(payload ++ beBytes 2 c.toNat ++ grace).length < payload.length + 2 := by omega
  have hinside : ¬payload.length + 4 < (payload ++ beBytes 2 c.toNat ++ grace).length := by omega
  have htake : (payload ++ beBytes 2 c.toNat ++ grace).take payload.length = payload := by
    rw [List.append_assoc, List.take_left']
    rfl
  have hcheck : (payload ++ beBytes 2 c.toNat ++ grace).getD payload.length 0 ++
      (payload ++ beBytes 2 c.toNat ++ grace).getD (payload.length + 1) 0 = c := by
    simpa [beBytes] using byteOf_append_byteOf c
  simp only [inspectBody, hlen, if_neg hwhole, if_neg hinside, htake, hcheck]

/-- A correction of the header leaves the later checks as they are. -/
theorem inspectBody_corrected (y : BitVec 64) (body : List Byte) : inspectBody ⟨.corrected, y⟩ body =
    ⟨(inspectBody ⟨.noError, y⟩ body).faults,
      (inspectBody ⟨.noError, y⟩ body).intact.map fun p => (⟨.corrected, p.1.symbols⟩, p.2)⟩ := by
  have hlength : (Header.mk .corrected y).length = (Header.mk .noError y).length := rfl
  unfold inspectBody
  rw [hlength]
  dsimp only
  split_ifs <;> rfl

/-! The preamble before the others -/

section
variable {tol : Tolerance} {x : Burst}

theorem inspect_judgedGood (h : x.preambleErrors.length = 8) (hgood : judgePreamble tol x.preambleErrors = .good) :
    inspect tol x = inspectHeader x := by
  rw [inspect, if_neg (by omega), hgood]

theorem inspect_judgedFixed (h : x.preambleErrors.length = 8) (hfixed : judgePreamble tol x.preambleErrors = .fixed) :
    inspect tol x = ⟨.preambleFixed :: (inspectHeader x).faults, (inspectHeader x).intact⟩ := by
  rw [inspect, if_neg (by omega), hfixed]

theorem inspect_judgedLost (h : x.preambleErrors.length = 8) (hlost : judgePreamble tol x.preambleErrors = .lost) :
    inspect tol x = ⟨[.preambleLost], none⟩ := by
  rw [inspect, if_neg (by omega), hlost]

end

/-- Settles O35: the checks in their order, each on the part of the burst that it reads. -/
theorem burstChecksFindTheirFaults : Obligations.BurstChecksFindTheirFaults := by
  refine ⟨fun v y9 y10 y11 y12 y13 y14 y15 y16 => ⟨kind_of_symbols .., tag_of_symbols .., serial_of_symbols ..,
      length_of_symbols ..⟩,
    fun v kind tag n l => ⟨kind_headerSymbols .., tag_headerSymbols .., serial_headerSymbols .., length_headerSymbols ..⟩,
    fun l hi lo => ⟨rfl, payloadObservation_symbols l hi lo⟩,
    fun errors hlen => ⟨fun hnone tol => judgePreamble_good tol hnone, fun hone => ⟨?lenient, fun hearly => ?early,
      fun hlate => ?late⟩, fun hmore tol => judgePreamble_lost tol hmore⟩,
    fun tol kind tag n payload body l => ?header,
    fun tol x => ⟨inspect_incomplete, fun hlen => ⟨fun hgood hheader => ?none, fun hfixed => ?fixed, fun hlost => ?lost⟩⟩⟩
  case lenient => rw [judgePreamble_one _ hone, if_pos (.inl rfl)]
  case early =>
    have hsplit := count_take_add_count_drop errors
    rw [judgePreamble_one _ hone, if_pos (.inr (by omega))]
  case late =>
    have hsplit := count_take_add_count_drop errors
    have hno : ¬(Tolerance.strict = .lenient ∨ (errors.take 6).count true = 1) := by
      rintro (h | h)
      · cases h
      · omega
    rw [judgePreamble_one _ hone, if_neg hno]
  case none =>
    rw [inspect_judgedGood hlen hgood]
    simp only [inspectHeader, hheader]
  case fixed =>
    rw [inspect_judgedFixed hlen hfixed, inspect_good rfl]
    rfl
  case lost => exact inspect_judgedLost hlen hlost
  case header =>
    intro read x bad
    have hx : inspect tol x = inspectHeader x := inspect_good rfl
    have hgood (v : HeaderVerdict) (hv : v ≠ .doubleError) (hnot : ¬bad) :
        headerBad ⟨v, headerSymbols kind tag n l⟩ = false :=
      Bool.eq_false_iff.mpr fun h => (headerBad_iff.mp h).elim hv hnot
    have hwhole (hnot : ¬bad) : inspect tol x = inspectBody ⟨.noError, headerSymbols kind tag n l⟩ body :=
      hx.trans (inspectHeader_noError rfl (hgood .noError (by decide) hnot))
    have hlength : (Header.mk .noError (headerSymbols kind tag n l)).length = l := length_headerSymbols ..
    refine ⟨fun hbad => ⟨?_, ?_⟩, ?_, fun hnot => ?_, fun hnot hshort => ?_, fun hnot hlong => ?_,
      fun grace hnot hlen hgrace => ⟨fun hbody => ?_, fun c hc hbody => ?_⟩⟩
    · exact hx.trans (inspectHeader_bad rfl (headerBad_iff.mpr (.inr hbad)))
    · exact (inspect_good rfl).trans (inspectHeader_bad rfl (headerBad_iff.mpr (.inr hbad)))
    · exact (inspect_good rfl).trans (inspectHeader_bad rfl (headerBad_iff.mpr (.inl rfl)))
    · rw [inspect_good rfl, inspectHeader_corrected rfl (hgood .corrected (by decide) hnot), inspectBody_corrected,
        hwhole hnot]
    · exact (hwhole hnot).trans (inspectBody_short (by rw [hlength]; exact hshort))
    · exact (hwhole hnot).trans (inspectBody_overrun (by rw [hlength]; exact hlong))
    · rw [hwhole hnot, hbody, inspectBody_with_check _ (by rw [hlength]; exact hlen) hgrace, if_pos rfl]
    · rw [hwhole hnot, hbody, inspectBody_with_check _ (by rw [hlength]; exact hlen) hgrace, if_neg hc.symm]

end Sys2Proof.Machine

/-! PROOFS. A Burst Receiver with a burst: its parts (R78, R79), its discards (R86, R87, R91, R92), its kind (R85, R94) and
its provider (R88), and a PRESENCE burst of an ACTIVE and of a SILENT entry (R125, R128, R129). -/

namespace Sys2Proof.Machine

/-! What checks 1 to 4 can find -/

/-- Faults are found in the order of the parts of a burst. -/
def InOrder (faults : List FaultKind) : Prop := faults.Pairwise fun k m => k.foundAt.rank ≤ m.foundAt.rank

theorem inspectBody_cases (h : Header) (body : List Byte) :
    (∃ k, k ≠ .preambleLost ∧ 3 ≤ k.foundAt.rank ∧ inspectBody h body = ⟨[k], none⟩) ∨
      ∃ payload, inspectBody h body = ⟨[], some (h, payload)⟩ := by
  unfold inspectBody
  dsimp only
  split_ifs
  · exact .inl ⟨.short, by decide, by decide, rfl⟩
  · exact .inl ⟨.overrun, by decide, by decide, rfl⟩
  · exact .inr ⟨_, rfl⟩
  · exact .inl ⟨.checkBad, by decide, by decide, rfl⟩

theorem inspectHeader_cases (x : Burst) :
    (∃ k, k ≠ .preambleLost ∧ 2 ≤ k.foundAt.rank ∧ inspectHeader x = ⟨[k], none⟩) ∨
    (∃ k, k ≠ .preambleLost ∧ 3 ≤ k.foundAt.rank ∧ inspectHeader x = ⟨[.headerFixed, k], none⟩) ∨
    (∃ h payload, x.header = some h ∧ (inspectHeader x = ⟨[], some (h, payload)⟩ ∨
      inspectHeader x = ⟨[.headerFixed], some (h, payload)⟩)) := by
  unfold inspectHeader
  cases hx : x.header with
  | none => exact .inl ⟨.short, by decide, by decide, rfl⟩
  | some h =>
    dsimp only
    split_ifs
    · exact .inl ⟨.headerBad, by decide, by decide, rfl⟩
    · rcases inspectBody_cases h x.body with ⟨k, hk, hrank, heq⟩ | ⟨payload, heq⟩
      · exact .inr (.inl ⟨k, hk, hrank, by rw [heq]⟩)
      · exact .inr (.inr ⟨h, payload, rfl, .inr (by rw [heq])⟩)
    · rcases inspectBody_cases h x.body with ⟨k, hk, hrank, heq⟩ | ⟨payload, heq⟩
      · exact .inl ⟨k, hk, by omega, by rw [heq]⟩
      · exact .inr (.inr ⟨h, payload, rfl, .inl (by rw [heq])⟩)

theorem inspect_cases (tol : Tolerance) (x : Burst) :
    (inspect tol x = inspectHeader x ∨ inspect tol x = ⟨.preambleFixed :: (inspectHeader x).faults, (inspectHeader x).intact⟩) ∨
      inspect tol x = ⟨[.short], none⟩ ∨ inspect tol x = ⟨[.preambleLost], none⟩ := by
  by_cases hlen : x.preambleErrors.length < 8
  · exact .inr (.inl (inspect_incomplete hlen))
  · rw [inspect, if_neg hlen]
    cases judgePreamble tol x.preambleErrors with
    | good => exact .inl (.inl rfl)
    | fixed => exact .inl (.inr rfl)
    | lost => exact .inr (.inr rfl)

theorem inspectHeader_inOrder (x : Burst) :
    InOrder (inspectHeader x).faults ∧ ∀ k ∈ (inspectHeader x).faults, 2 ≤ k.foundAt.rank := by
  have hfixed : FaultKind.headerFixed.foundAt.rank = 2 := rfl
  rcases inspectHeader_cases x with ⟨k, -, hrank, heq⟩ | ⟨k, -, hrank, heq⟩ | ⟨h, payload, -, heq | heq⟩ <;>
    rw [heq]
  · simp [InOrder, hrank]
  · simp only [InOrder, List.pairwise_cons, List.mem_cons, List.not_mem_nil, or_false, forall_eq, forall_eq_or_imp, hfixed]
    simp
    omega
  · simp [InOrder]
  · simp [InOrder, hfixed]

theorem inspect_inOrder (tol : Tolerance) (x : Burst) : InOrder (inspect tol x).faults := by
  obtain ⟨hsorted, hlate⟩ := inspectHeader_inOrder x
  have hfixed : FaultKind.preambleFixed.foundAt.rank = 1 := rfl
  rcases inspect_cases tol x with (heq | heq) | heq | heq <;> rw [heq]
  · exact hsorted
  · exact List.pairwise_cons.mpr ⟨fun k hk => by have := hlate k hk; omega, hsorted⟩
  · exact List.pairwise_singleton ..
  · exact List.pairwise_singleton ..

theorem inspect_intact {tol : Tolerance} {x : Burst} {h : Header} {payload : List Byte}
    (hintact : (inspect tol x).intact = some (h, payload)) :
    x.header = some h ∧ .preambleLost ∉ (inspect tol x).faults := by
  rcases inspect_cases tol x with heq | heq | heq
  · rcases inspectHeader_cases x with ⟨k, -, -, hx⟩ | ⟨k, -, -, hx⟩ | ⟨g, q, hheader, hx⟩
    · rcases heq with heq | heq <;> rw [heq, hx] at hintact <;> cases hintact
    · rcases heq with heq | heq <;> rw [heq, hx] at hintact <;> cases hintact
    · rcases heq with heq | heq <;> rcases hx with hx | hx <;> rw [heq, hx] at hintact ⊢ <;> cases hintact <;>
        exact ⟨hheader, by simp⟩
  · rw [heq] at hintact
    cases hintact
  · rw [heq] at hintact
    cases hintact

/-- In a burst whose faults come in order, those up to a part and those after it are all of them. -/
theorem foundBetween_append {faults : List FaultKind} (hsorted : InOrder faults) (p : BurstPart) :
    foundBetween .begun p faults ++ foundBetween p .ended faults = faults := by
  induction faults with
  | nil => rfl
  | cons k ks ih =>
    obtain ⟨hfirst, hrest⟩ := List.pairwise_cons.mp hsorted
    have hbegun : BurstPart.begun.rank < k.foundAt.rank := by cases k <;> decide
    have hended : k.foundAt.rank ≤ BurstPart.ended.rank := by cases k <;> decide
    have hcut := ih hrest
    unfold foundBetween at hcut ⊢
    by_cases hk : k.foundAt.rank ≤ p.rank
    · rw [List.filter_cons_of_pos (by simp [hbegun, hk]), List.filter_cons_of_neg (by simp; omega), List.cons_append, hcut]
    · have hnone : foundBetween .begun p ks = [] := List.filter_eq_nil_iff.mpr fun m hm => by
        have := hfirst m hm
        simp
        omega
      unfold foundBetween at hnone
      rw [List.filter_cons_of_neg (by simp [hk]), List.filter_cons_of_pos (by simp [hended]; omega), hnone]
      rw [hnone] at hcut
      exact congrArg (k :: ·) hcut

/-! The faults that are reported (R90) -/

theorem reportFound_append (s : State) (b : Branch) (fs gs : List FaultKind) :
    s.reportFound b (fs ++ gs) = (s.reportFound b fs).reportFound b gs :=
  List.foldl_append ..

theorem reportFault_frame (s : State) (b : Branch) (k : FaultKind) :
    s.reportFault b k = { s with lanes := (s.reportFault b k).lanes, ports := (s.reportFault b k).ports } := by
  unfold State.reportFault
  split <;> rfl

theorem reportFault_lane_ne (s : State) {b c : Branch} (k : FaultKind) (hne : c ≠ b) :
    (s.reportFault b k).lane c = s.lane c := by
  unfold State.reportFault
  split
  · exact State.setLane_lane_ne _ _ _ _ hne.symm
  · rfl

theorem reportFound_frame (s : State) (b : Branch) (fs : List FaultKind) :
    s.reportFound b fs = { s with lanes := (s.reportFound b fs).lanes, ports := (s.reportFound b fs).ports } := by
  induction fs generalizing s with
  | nil => rfl
  | cons k ks ih =>
    have hcons : s.reportFound b (k :: ks) = (s.reportFault b k).reportFound b ks := rfl
    rw [hcons]
    refine (ih _).trans ?_
    rw [reportFault_frame s b k]

theorem reportFound_lane_ne (s : State) {b c : Branch} (fs : List FaultKind) (hne : c ≠ b) :
    (s.reportFound b fs).lane c = s.lane c := by
  induction fs generalizing s with
  | nil => rfl
  | cons k ks ih => exact (ih _).trans (reportFault_lane_ne s k hne)

theorem reportFault_recorded {s : State} {b : Branch} {k : FaultKind} (h : s.settings.record &&& k.bit ≠ 0) :
    s.reportFault b k = (s.setLane b ((s.lane b).recordFault k)).raise .laneFault := by
  rw [State.reportFault]
  exact if_pos (decide_eq_true h)

theorem reportFault_unrecorded {s : State} {b : Branch} {k : FaultKind} (h : s.settings.record &&& k.bit = 0) :
    s.reportFault b k = s := by
  rw [State.reportFault, if_neg (by simp [FaultKind.inSet, h])]

/-- Only the faults of the record set are recorded, and one event stands for all of them. -/
theorem reportFound_eq (s : State) (b : Branch) (fs : List FaultKind) :
    let recorded := fs.filter fun k => s.settings.record &&& k.bit ≠ 0
    ((s.reportFound b fs).lane b = recorded.foldl (fun l k => l.recordFault k) (s.lane b)) ∧
    (recorded = [] → (s.reportFound b fs).ports = s.ports) ∧
    (recorded ≠ [] → ∀ p, (s.reportFound b fs).port p = (s.port p).raise .laneFault) := by
  induction fs generalizing s with
  | nil => exact ⟨rfl, fun _ => rfl, fun h => absurd rfl h⟩
  | cons k ks ih =>
    dsimp only
    have hcons : s.reportFound b (k :: ks) = (s.reportFault b k).reportFound b ks := rfl
    obtain ⟨hlane, hquiet, hloud⟩ := ih (s.reportFault b k)
    have hsettings : (s.reportFault b k).settings = s.settings := by rw [reportFault_frame]
    rw [hsettings] at hlane hquiet hloud
    rw [hcons]
    by_cases hk : s.settings.record &&& k.bit = 0
    · rw [List.filter_cons_of_neg (by simpa using hk)]
      rw [reportFault_unrecorded hk] at hlane hquiet hloud ⊢
      exact ⟨hlane, hquiet, hloud⟩
    · have hreport := reportFault_recorded (s := s) (b := b) hk
      rw [List.filter_cons_of_pos (by simpa using hk)]
      refine ⟨?_, fun h => (by cases h), fun _ p => ?_⟩
      · rw [hlane, List.foldl_cons, hreport]
        exact congrArg (List.foldl _ · _) (State.setLane_lane_same ..)
      · have hport : (s.reportFault b k).port p = (s.port p).raise .laneFault := by
          rw [hreport, State.raise_port, State.setLane_port]
        by_cases hrest : (ks.filter fun k => decide (s.settings.record &&& k.bit ≠ 0)) = []
        · have hports := hquiet hrest
          rw [State.port, hports]
          exact hport
        · rw [hloud hrest p, hport, PortRecord.raise, PortRecord.raise, BitVec.or_assoc, BitVec.or_self]

theorem faultKind_index_lt (k : FaultKind) : k.index < 13 := by cases k <;> decide

/-- The fault kind at a place in the order of R90. -/
def faultKindAt : Nat → FaultKind
  | 0 => .preambleFixed | 1 => .preambleLost | 2 => .headerFixed | 3 => .headerBad
  | 4 => .checkBad | 5 => .short | 6 => .overrun | 7 => .stray
  | 8 => .unknownKind | 9 => .providerOffSeen | 10 => .unboundPresence | 11 => .unheard
  | _ => .doubleReply

theorem faultKind_index_injective : Function.Injective FaultKind.index :=
  Function.LeftInverse.injective (g := faultKindAt) fun k => by cases k <;> rfl

/-- A recorded fault leaves everything but the flags and the count of its lane. -/
theorem foldl_recordFault (fs : List FaultKind) (l : Lane) :
    let m := fs.foldl (fun l k => l.recordFault k) l
    m = { l with flags := m.flags, count := m.count } ∧
    (∀ k : FaultKind, m.flags &&& k.bit ≠ 0 ↔ l.flags &&& k.bit ≠ 0 ∨ k ∈ fs) ∧
    (fs ≠ [] → m.count = min 255 (l.count + fs.length)) := by
  induction fs generalizing l with
  | nil => exact ⟨rfl, fun k => by simp, fun h => absurd rfl h⟩
  | cons k ks ih =>
    obtain ⟨hframe, hflags, hcount⟩ := ih (l.recordFault k)
    dsimp only [List.foldl_cons]
    refine ⟨hframe, fun m => ?_, fun _ => ?_⟩
    · have hfirst : (l.recordFault k).flags &&& m.bit ≠ 0 ↔ l.flags &&& m.bit ≠ 0 ∨ m = k := by
        unfold FaultKind.bit
        rw [and_oneBit_ne_zero _ (faultKind_index_lt m), and_oneBit_ne_zero _ (faultKind_index_lt m), Lane.recordFault,
          FaultKind.bit, or_oneBit_getLsbD _ (faultKind_index_lt k), Bool.or_eq_true, decide_eq_true_iff]
        exact or_congr_right ⟨(faultKind_index_injective ·), congrArg _⟩
      rw [hflags, hfirst, List.mem_cons, or_assoc]
    · have hone : (l.recordFault k).count = min 255 (l.count + 1) := rfl
      by_cases hks : ks = []
      · subst hks
        exact hone
      · rw [hcount hks, hone, List.length_cons]
        omega

/-! A burst that has passed checks 1 to 4 -/

section
variable {s : State} {b : Branch} {x : Burst}

theorem receptionOf_ended (h : x.upTo = .ended) :
    s.receptionOf b x = (s.lane b).rx.getD ⟨s.settings.tolerance, .begun, (s.branch b).rangeCounter, true⟩ := by
  rw [State.receptionOf, if_neg (by rw [h]; decide)]
  rfl

theorem not_lost_of_intact {tol : Tolerance} {h : Header} {payload : List Byte} (p q : BurstPart)
    (hintact : (inspect tol x).intact = some (h, payload)) :
    .preambleLost ∉ foundBetween p q (inspect tol x).faults := fun hmem =>
  (inspect_intact hintact).2 (mem_foundBetween.mp hmem).1

theorem receive_intact {r : Reception} {h : Header} {payload : List Byte} (hopen : s.OpenLane b) (htime : x.inTime = true)
    (hend : x.upTo = .ended)
    (hr : r = (s.lane b).rx.getD ⟨s.settings.tolerance, .begun, (s.branch b).rangeCounter, true⟩)
    (htaken : r.taken = true) (hintact : (inspect r.tolerance x).intact = some (h, payload)) :
    s.receive b x = ((s.setLane b { s.lane b with rx := none }).reportFound b
      (foundBetween r.upTo .ended (inspect r.tolerance x).faults)).takeIntact b h payload r.counter := by
  have hrx : s.receptionOf b x = r := (receptionOf_ended hend).trans hr.symm
  rw [receive_eq_takePart hopen htime (by rw [hrx]; exact htaken), hrx, State.takePart]
  simp only [hend, hintact, afterPreamble_of_not_lost (not_lost_of_intact _ _ hintact)]
  rfl

end

end Sys2Proof.Machine

/-! PROOFS. The Unknown-Kind Table (R94), discarded bursts (R86, R87, R91, R92), accepted bursts (R88, R89), and a PRESENCE
burst of an ACTIVE and of a SILENT entry (R125, R128, R129). -/

namespace Sys2Proof.Machine

/-! Bursts of unknown kind (R85, R94) -/

theorem takeIntact_unknown {s : State} {b : Branch} {h : Header} {payload : List Byte} {c : Option RangeCounter}
    (hkind : burstKindOf h.kind = none) :
    s.takeIntact b h payload c = (s.reportFault b .unknownKind).offerUnknown b h.kind := by
  simp only [State.takeIntact, hkind]

theorem takeIntact_known {s : State} {b : Branch} {h : Header} {payload : List Byte} {c : Option RangeCounter}
    {k : BurstKind} (hkind : burstKindOf h.kind = some k) : s.takeIntact b h payload c =
      s.takeKnown b k ⟨h.serial, h.tag, payloadLevel payload, payloadObservation payload⟩ c := by
  simp only [State.takeIntact, hkind]

theorem inspect_cleanBurst_unknown {tol : Tolerance} {kind : BitVec 4} {tag : BitVec 3} {n : Serial}
    {payload : List Byte} (hkind : burstKindOf kind = none) (hn : n ≠ 0) (hlen : payload.length ≤ 16) :
    inspect tol (cleanBurst kind tag n payload) =
      ⟨[], some (⟨.noError, headerSymbols kind tag n (byteOf payload.length)⟩, payload)⟩ := by
  have hbyte : (byteOf payload.length).toNat = payload.length := byteOf_toNat (by omega)
  have hgood : headerBad ⟨.noError, headerSymbols kind tag n (byteOf payload.length)⟩ = false := by
    rw [Bool.eq_false_iff, ne_eq, headerBad_iff, hbyte, hkind]
    simpa [hlen] using hn
  rw [inspect_good rfl, inspectHeader_noError rfl hgood]
  exact inspectBody_checked ((congrArg BitVec.toNat (length_headerSymbols ..)).trans hbyte)

section
variable {s : State} {b : Branch} {kind : BitVec 4}

theorem offerUnknown_held (h : ∃ i : Fin 4, s.unknown.entries[i] = some (b, kind)) : s.offerUnknown b kind = s := by
  obtain ⟨i, hi⟩ := h
  have hany : ((List.finRange 4).any fun i : Fin 4 => s.unknown.entries[i] = some (b, kind)) = true :=
    List.any_eq_true.mpr ⟨i, List.mem_finRange i, decide_eq_true hi⟩
  rw [State.offerUnknown, if_pos hany]

theorem offerUnknown_new (h : ∀ i : Fin 4, s.unknown.entries[i] ≠ some (b, kind)) : s.offerUnknown b kind =
    ((List.finRange 4).find? fun i : Fin 4 => (s.unknown.entries[i]).isNone).elim
      (if s.unknown.overflow then s
        else { s with unknown := { s.unknown with overflow := true } }.raise .unknownKind)
      fun i => { s with unknown := { s.unknown with
        entries := s.unknown.entries.set i (some (b, kind)) } }.raise .unknownKind := by
  have hany : ¬((List.finRange 4).any fun i : Fin 4 => s.unknown.entries[i] = some (b, kind)) = true := by
    rw [List.any_eq_true]
    rintro ⟨i, -, hi⟩
    exact h i (of_decide_eq_true hi)
  rw [State.offerUnknown, if_neg hany]
  cases (List.finRange 4).find? fun i : Fin 4 => (s.unknown.entries[i]).isNone <;> rfl

end

/-- Settles O37. -/
theorem unknownKindIsReportedAndOffered : Obligations.UnknownKindIsReportedAndOffered := by
  refine ⟨fun s b kind hopen hkind => ⟨fun x r htime hend hx hr htaken hintact => ?burst,
      fun tag n payload hfree hn hlen => ?clean⟩,
    fun s b kind => ⟨offerUnknown_held, fun hnew => ⟨fun i hempty hlower => ?stored, fun hfull => ⟨fun hover => ?marked,
      fun hover => ?overflows⟩⟩⟩,
    fun s b k => ⟨reportFault_recorded, reportFault_unrecorded⟩⟩
  case burst =>
    obtain ⟨⟨h, payload⟩, hpassed⟩ := Option.ne_none_iff_exists'.mp hintact
    have hheader : h.kind = kind := by
      rw [Burst.kind?, (inspect_intact hpassed).1] at hx
      exact Option.some.inj hx
    have hreceived := receive_intact hopen htime hend hr htaken hpassed
    rw [takeIntact_unknown (by rw [hheader]; exact hkind), hheader] at hreceived
    exact congrArg Host.Outcome.next hreceived
  case clean =>
    have hreceived := receive_taken (x := cleanBurst kind tag n payload) ⟨hopen, hfree⟩ rfl rfl
    rw [inspect_cleanBurst_unknown hkind hn hlen] at hreceived
    refine congrArg Host.Outcome.next (hreceived.trans ?_)
    dsimp only
    rw [takeIntact_unknown (by rw [kind_headerSymbols]; exact hkind), kind_headerSymbols,
      afterPreamble_of_not_lost List.not_mem_nil]
    rfl
  case stored =>
    have hfound : ((List.finRange 4).find? fun i : Fin 4 => (s.unknown.entries[i]).isNone) = some i :=
      find?_finRange_eq_some.mpr ⟨Option.isNone_iff_eq_none.mpr hempty, fun j hj =>
        Option.isNone_eq_false_iff.mpr (Option.isSome_iff_ne_none.mpr (hlower j hj))⟩
    rw [offerUnknown_new hnew, hfound]
    rfl
  all_goals
    have hfound : ((List.finRange 4).find? fun i : Fin 4 => (s.unknown.entries[i]).isNone) = none :=
      find?_finRange_eq_none.mpr fun i =>
        Option.isNone_eq_false_iff.mpr (Option.isSome_iff_ne_none.mpr (hfull i))
    rw [offerUnknown_new hnew, hfound]
  case marked => exact if_pos hover
  case overflows => exact if_neg (by rw [hover]; decide)

/-! The rows that a Burst Receiver takes -/

theorem exec_burst_row {b : Branch} {kind : BitVec 4} {row : Burst → Instr}
    (hrow : row ∈ [Instr.hello b, .matchReply b, .rangeReply b, .presence b, .unknownKindBurst b kind, .badBurst b kind])
    (x : Burst) (s : State) : exec (row x) s = .next (s.receive b x) := by
  simp only [List.mem_cons, List.not_mem_nil, or_false] at hrow
  rcases hrow with rfl | rfl | rfl | rfl | rfl | rfl <;> rfl

/-! Discarded bursts (R78 to R84, R91, R92) -/

section
variable {s : State} {b : Branch} {x : Burst}

theorem takePart_discarded {r : Reception} (h : x.upTo = .ended → (inspect r.tolerance x).intact = none) :
    s.takePart b x r = ((s.setReception b (r.after x.upTo)).reportFound b
      (foundBetween r.upTo x.upTo (inspect r.tolerance x).faults)).afterPreamble b
        (foundBetween r.upTo x.upTo (inspect r.tolerance x).faults) := by
  unfold State.takePart
  dsimp only
  split
  next hintact hend => exact absurd (h hend) (by rw [hintact]; exact Option.some_ne_none _)
  next => rfl

theorem after_later {r : Reception} {p : BurstPart} (h : r.upTo.rank < p.rank) :
    r.after p = if p = .ended then none else some { r with upTo := p } := by
  rw [Reception.after, if_pos h]

/-- A burst that begins is read, and nothing else happens yet (R78). -/
theorem receive_begun (hopen : s.OpenLane b) (htime : x.inTime = true) (hbegun : x.upTo = .begun) :
    s.receive b x = s.setReception b (some ⟨s.settings.tolerance, .begun, (s.branch b).rangeCounter, true⟩) := by
  have hnew : s.receptionOf b x = s.newReception b := if_pos hbegun
  rw [receive_eq_takePart hopen htime (by rw [hnew]; rfl), hnew,
    takePart_discarded fun h => absurd (hbegun.symm.trans h) (by decide), hbegun, foundBetween_begun,
    afterPreamble_of_not_lost List.not_mem_nil]
  rfl

theorem setReception_self (s : State) (b : Branch) : s.setReception b (s.lane b).rx = s := by
  have hself : { s.lane b with rx := (s.lane b).rx } = s.lane b := rfl
  rw [State.setReception, hself]
  simp [State.setLane, State.lane]

theorem afterPreamble_closes {fs : List FaultKind} (h : .preambleLost ∈ fs ∧ s.settings.recovery = .close) :
    s.afterPreamble b fs = s.closeLane b := if_pos h

theorem afterPreamble_stays {fs : List FaultKind} (h : ¬(.preambleLost ∈ fs ∧ s.settings.recovery = .close)) :
    s.afterPreamble b fs = s := if_neg h

theorem afterPreamble_eq (s : State) (b : Branch) (fs : List FaultKind) :
    let t := s.afterPreamble b fs
    let closes := .preambleLost ∈ fs ∧ s.settings.recovery = .close
    t = { s with lanes := t.lanes, ports := t.ports } ∧ (∀ c, c ≠ b → t.lane c = s.lane c) ∧
    t.lane b = { s.lane b with closed := (s.lane b).closed || decide closes } ∧
    (closes → ∀ p, t.port p = (s.port p).raise .laneFault) ∧ (¬closes → t.ports = s.ports) := by
  intro t closes
  by_cases h : closes
  · have ht : t = s.closeLane b := afterPreamble_closes h
    rw [ht, decide_eq_true h, Bool.or_true]
    exact ⟨rfl, fun c hne => State.setLane_lane_ne _ _ _ _ hne.symm, State.setLane_lane_same ..,
      fun _ p => State.raise_port .., fun hno => absurd h hno⟩
  · have ht : t = s := afterPreamble_stays h
    rw [ht, decide_eq_false h, Bool.or_false]
    exact ⟨rfl, fun _ _ => rfl, rfl, fun hyes => absurd hyes h, fun _ => rfl⟩

theorem raise_raise (p : PortRecord) (e : Event) : (p.raise e).raise e = p.raise e := by
  rw [PortRecord.raise, PortRecord.raise, BitVec.or_assoc, BitVec.or_self]

theorem ignoreBurst_eq (s : State) (b : Branch) (x : Burst) :
    let new : Reception := ⟨s.settings.tolerance, .begun, (s.branch b).rangeCounter, true⟩
    let r := if x.upTo = .begun then new else (s.lane b).rx.getD new
    s.ignoreBurst b x = s.setLane b { s.lane b with
      rx := if x.upTo = .ended then none
        else some { r with taken := false, upTo := if r.upTo.rank < x.upTo.rank then x.upTo else r.upTo } } := by
  intro new r
  have hr : s.receptionOf b x = r := rfl
  have hafter : r.ignored.after x.upTo = if x.upTo = .ended then none
      else some { r with taken := false, upTo := if r.upTo.rank < x.upTo.rank then x.upTo else r.upTo } := by
    unfold Reception.after Reception.ignored
    split_ifs <;> rfl
  rw [State.ignoreBurst, hr, hafter, State.setReception]

end

/-! Bursts outside their window or without their entry (R86, R87) -/

section
variable {s : State} {b : Branch} {r : Report} {c : Option RangeCounter} {k : BurstKind}

theorem takeKnown_stray (h : k.invited (s.branch b).window = false) : s.takeKnown b k r c = s.reportFault b .stray := by
  rw [State.takeKnown, h]
  rfl

theorem takeKnown_unbound (h : s.presenceDrop b r.serial = none) :
    s.takeKnown b .presence r c = s.reportFault b .unboundPresence := by
  rw [State.takeKnown]
  exact (if_neg (by simp [BurstKind.invited])).trans (if_pos ⟨rfl, h⟩)

theorem takeKnown_accepted (hinvited : k.invited (s.branch b).window = true)
    (hdrop : k = .presence → s.presenceDrop b r.serial ≠ none) :
    s.takeKnown b k r c = (s.noteProvider b r.tag).handOn b k r c := by
  rw [State.takeKnown, hinvited, if_neg (by decide), if_neg fun h => hdrop h.1 h.2]

end

theorem serial_of_holderOf {s : State} {n : Serial} {d : Drop} (h : s.holderOf n = some d) :
    (s.entry d).serial = some n := by
  simpa using List.find?_some h

theorem holderOf_eq_some {s : State} {n : Serial} {d : Drop} (hserial : (s.entry d).serial = some n)
    (honly : ∀ e, e ≠ d → (s.entry e).serial ≠ some n) : s.holderOf n = some d := by
  refine find?_finRange_eq_some.mpr ⟨decide_eq_true hserial, fun e he => ?_⟩
  exact decide_eq_false (honly e (Fin.ne_of_lt he))

theorem jobField_eq_some_iff {s : State} {d : Drop} {st : Stage} :
    s.jobField d = some st ↔ ∃ j, s.jobOf d = some j ∧ j.stage = st := by
  simp [State.jobField]

theorem presenceDrop_eq_none {s : State} {b : Branch} {n : Serial}
    (h : ∀ d : Drop, d.branch = b → (s.entry d).serial = some n →
      (s.entry d).state ≠ .active ∧ (s.entry d).state ≠ .silent ∧
      ((s.entry d).state = .ranging → ∀ j, s.jobOf d = some j → j.stage ≠ .admitting)) : s.presenceDrop b n = none := by
  unfold State.presenceDrop
  split
  next d hholder =>
    refine if_neg fun ⟨hbranch, hstate⟩ => ?_
    obtain ⟨hactive, hsilent, hadmitting⟩ := h d hbranch (serial_of_holderOf hholder)
    rcases hstate with hstate | hstate | ⟨hstate, hfield⟩
    · exact hactive hstate
    · exact hsilent hstate
    · obtain ⟨j, hj, hstage⟩ := jobField_eq_some_iff.mp hfield
      exact hadmitting hstate j hj hstage
  next => rfl

theorem presenceDrop_eq_some {s : State} {d : Drop} {n : Serial} (hserial : (s.entry d).serial = some n)
    (honly : ∀ e, e ≠ d → (s.entry e).serial ≠ some n)
    (hstate : (s.entry d).state = .active ∨ (s.entry d).state = .silent ∨
      ((s.entry d).state = .ranging ∧ ∃ j, s.jobOf d = some j ∧ j.stage = .admitting)) :
    s.presenceDrop d.branch n = some d := by
  rw [← jobField_eq_some_iff] at hstate
  rw [State.presenceDrop, holderOf_eq_some hserial honly]
  exact if_pos ⟨rfl, hstate⟩

/-- Settles O36: a burst at fault by what the reports of its faults touch, a burst that is not taken by `ignoreBurst`, and
a clean burst outside its window or without its entry. -/
theorem discardedBurstsOnlyMarkTheLane : Obligations.DiscardedBurstsOnlyMarkTheLane := by
  refine ⟨fun s b kind x r hopen htime hbegun hr htaken hlater hfault => ?faulty, fun s b kind x => ⟨?closed,
      fun row hrow => ⟨fun hlost => ?lost, fun hopen htime => ⟨fun hbegun => ?begun, fun q hq htaken hbegun hended hrank =>
        ?again⟩⟩⟩,
    fun s b tag n raw obs hlistening hn => ⟨fun hw => ?hello, fun hw => ?matchReply, fun hw => ?rangeReply,
      fun hnone => ?presence⟩⟩
  case closed => exact congrArg Host.Outcome.next (ignoreBurst_eq s b x)
  case lost =>
    rw [exec_burst_row hrow, ← ignoreBurst_eq s b x]
    refine congrArg Host.Outcome.next (receive_lost ?_)
    rcases hlost with h | h | h | h
    · exact .inr (.inl h)
    · exact .inl (by simp [State.isRunning, h])
    · exact .inr (.inr (.inl h))
    · exact .inr (.inr (.inr h))
  case begun =>
    rw [exec_burst_row hrow, receive_begun hopen htime hbegun]
    rfl
  case again =>
    have hq' : s.receptionOf b x = q := by rw [State.receptionOf, if_neg hbegun, hq]; rfl
    have hstays : q.after x.upTo = (s.lane b).rx := by rw [Reception.after, if_neg hended, if_neg (by omega), hq]
    have hnothing : foundBetween q.upTo x.upTo (inspect q.tolerance x).faults = [] :=
      List.filter_eq_nil_iff.mpr fun k _ => by simp; omega
    rw [exec_burst_row hrow, receive_eq_takePart hopen htime (by rw [hq']; exact htaken), hq',
      takePart_discarded fun h => absurd h hended, hnothing, afterPreamble_of_not_lost List.not_mem_nil, hstays]
    exact congrArg Host.Outcome.next (setReception_self s b)
  case hello =>
    refine congrArg Host.Outcome.next ((receive_cleanBurst hlistening rfl hn rfl).trans (takeKnown_stray ?_))
    exact decide_eq_false hw
  case matchReply =>
    refine congrArg Host.Outcome.next ((receive_cleanBurst hlistening rfl hn rfl).trans (takeKnown_stray ?_))
    exact decide_eq_false hw
  case rangeReply =>
    refine congrArg Host.Outcome.next ((receive_cleanBurst hlistening rfl hn rfl).trans (takeKnown_stray ?_))
    exact decide_eq_false hw
  case presence =>
    exact congrArg Host.Outcome.next
      ((receive_cleanBurst hlistening rfl hn rfl).trans (takeKnown_unbound (presenceDrop_eq_none hnone)))
  case faulty =>
    intro foundAt found recorded closes
    have hrx : s.receptionOf b x = r := by
      rw [State.receptionOf, if_neg hbegun]
      exact hr.symm
    have hfound : foundBetween r.upTo x.upTo (inspect r.tolerance x).faults = found := by
      unfold foundBetween
      refine List.filter_congr fun k _ => ?_
      rw [Bool.decide_and]
      rfl
    have hexec : exec (.badBurst b kind x) s = .next (((s.setReception b (r.after x.upTo)).reportFound b
        found).afterPreamble b found) := by
      rw [← hfound, ← takePart_discarded hfault]
      exact congrArg Host.Outcome.next ((receive_eq_takePart hopen htime (by rw [hrx]; exact htaken)).trans (by rw [hrx]))
    obtain ⟨hlane, hquiet, hloud⟩ := reportFound_eq (s.setReception b (r.after x.upTo)) b found
    obtain ⟨hkept, hflags, hcount⟩ := foldl_recordFault recorded ((s.setReception b (r.after x.upTo)).lane b)
    have hframe := reportFound_frame (s.setReception b (r.after x.upTo)) b found
    have hothers (c : Branch) (hne : c ≠ b) := reportFound_lane_ne (s.setReception b (r.after x.upTo)) found hne
    have hbefore : (s.setReception b (r.after x.upTo)).lane b =
        { s.lane b with rx := if x.upTo = .ended then none else some { r with upTo := x.upTo } } := by
      rw [← after_later hlater]
      exact State.setLane_lane_same ..
    change _ = recorded.foldl (fun (l : Lane) k => l.recordFault k) _ at hlane
    rw [hbefore] at hkept hflags hcount hlane
    rw [← hlane] at hkept hflags hcount
    obtain ⟨haframe, haothers, halane, haloud, haquiet⟩ :=
      afterPreamble_eq ((s.setReception b (r.after x.upTo)).reportFound b found) b found
    have hrecovery : ((s.setReception b (r.after x.upTo)).reportFound b found).settings.recovery =
        s.settings.recovery := by rw [hframe]; rfl
    rw [hrecovery] at halane haloud haquiet
    rw [hexec]
    generalize (s.setReception b (r.after x.upTo)).reportFound b found = u at *
    generalize u.afterPreamble b found = t at *
    have hopen' : (u.lane b).closed = false := (congrArg Lane.closed hkept).trans hopen.2
    rw [hopen', Bool.false_or] at halane
    refine ⟨t, rfl, ?_, fun c hne => ?_, ?_, ?_, ?_, fun k => ?_, fun h => ?_, fun h => ?_, ?_, fun h p => ?_,
      fun hnone hstays => ?_⟩
    · rw [haframe, hframe]
      rfl
    · rw [haothers c hne, hothers c hne]
      exact State.setLane_lane_ne _ _ _ _ hne.symm
    · rw [halane]
      exact (congrArg Lane.calls hkept :)
    · rw [halane]
      exact (congrArg Lane.seen hkept :)
    · rw [halane]
      exact (congrArg Lane.rx hkept :)
    · rw [halane]
      exact hflags k
    · rw [halane]
      change (u.lane b).count = _
      rw [hlane, h]
      rfl
    · rw [halane]
      exact hcount h
    · rw [halane]
      exact decide_eq_true_iff
    · by_cases hrecorded : recorded = []
      · rw [haloud (h.resolve_left fun hno => hno hrecorded) p, State.port, hquiet hrecorded]
        rfl
      · by_cases hcloses : closes
        · rw [haloud hcloses p, hloud hrecorded p, raise_raise]
          rfl
        · rw [State.port, haquiet hcloses]
          exact hloud hrecorded p
    · rw [haquiet hstays, hquiet hnone]
      rfl

end Sys2Proof.Machine

/-! PROOFS. A burst given in parts (R78, R79), the provider of an accepted burst (R88, R89), and a PRESENCE burst of an
ACTIVE and of a SILENT entry (R125, R128, R129). -/

namespace Sys2Proof.Machine

/-! A burst in parts comes to the same as the burst given whole (R79) -/

theorem closeLane_setReception (s : State) (b : Branch) (r : Option Reception) :
    (s.setReception b r).closeLane b = (s.closeLane b).setReception b r := by
  simp [State.closeLane, State.setReception, State.setLane, State.lane, State.raise]

theorem afterPreamble_congr {s : State} {b : Branch} {fs gs : List FaultKind}
    (h : s.settings.recovery = .close → (.preambleLost ∈ fs ↔ .preambleLost ∈ gs)) :
    s.afterPreamble b fs = s.afterPreamble b gs := by
  unfold State.afterPreamble
  by_cases hclose : s.settings.recovery = .close
  · simp only [h hclose]
  · simp only [hclose, and_false]

theorem reportFound_settings (s : State) (b : Branch) (fs : List FaultKind) :
    (s.reportFound b fs).settings = s.settings := by
  rw [reportFound_frame]

theorem reportFound_startup (s : State) (b : Branch) (fs : List FaultKind) : (s.reportFound b fs).startup = s.startup := by
  rw [reportFound_frame]

/-- Reports leave the lane open and the burst in progress as it was. -/
theorem reportFound_lane (s : State) (b : Branch) (fs : List FaultKind) :
    ((s.reportFound b fs).lane b).closed = (s.lane b).closed ∧ ((s.reportFound b fs).lane b).rx = (s.lane b).rx := by
  obtain ⟨hlane, -, -⟩ := reportFound_eq s b fs
  rw [hlane, (foldl_recordFault _ (s.lane b)).1]
  exact ⟨rfl, rfl⟩

/-- A lost preamble is the only fault found in its burst. -/
theorem faults_of_lost {tol : Tolerance} {x : Burst} (h : .preambleLost ∈ (inspect tol x).faults) :
    inspect tol x = ⟨[.preambleLost], none⟩ := by
  have hheader : .preambleLost ∉ (inspectHeader x).faults := by
    rcases inspectHeader_cases x with ⟨k, hk, -, heq⟩ | ⟨k, hk, -, heq⟩ | ⟨_, _, -, heq | heq⟩ <;> rw [heq]
    · simpa using hk.symm
    · simpa using hk.symm
    · simp
    · simp
  rcases inspect_cases tol x with (heq | heq) | heq | heq <;> rw [heq] at h
  · exact absurd h hheader
  · exact absurd ((List.mem_cons.mp h).resolve_left (by decide)) hheader
  · simp at h
  · exact heq

section
variable {s : State} {b : Branch} {x : Burst} {p : BurstPart}

/-- The state after the first part of a burst, and the reception it leaves. -/
theorem receive_first_part (hlistening : s.Listening b) (htime : x.inTime = true) (hp : p ≠ .ended) :
    s.receive b { x with upTo := p } =
      ((s.setReception b (some ⟨s.settings.tolerance, p, (s.branch b).rangeCounter, true⟩)).reportFound b
        (foundBetween .begun p (inspect s.settings.tolerance x).faults)).afterPreamble b
          (foundBetween .begun p (inspect s.settings.tolerance x).faults) := by
  obtain ⟨hopen, hfree⟩ := hlistening
  have hrx : s.receptionOf b { x with upTo := p } = s.newReception b := by
    rw [State.receptionOf, hfree]
    exact ite_self _
  have hafter : (s.newReception b).after p =
      some ⟨s.settings.tolerance, p, (s.branch b).rangeCounter, true⟩ := by
    rw [Reception.after, if_neg hp]
    cases p <;> rfl
  rw [receive_eq_takePart (x := { x with upTo := p }) hopen htime (by rw [hrx]; rfl), hrx, takePart_discarded fun h => absurd h hp, hafter]
  rfl

/-- The end of a burst that the lane takes: its remaining faults, and the burst itself where it passed. -/
theorem receive_end {r : Reception} (hopen : s.OpenLane b) (htime : x.inTime = true) (hrx : (s.lane b).rx = some r)
    (htaken : r.taken = true) :
    let found := foundBetween r.upTo .ended (inspect r.tolerance x).faults
    let u := ((s.setReception b none).reportFound b found).afterPreamble b found
    s.receive b { x with upTo := .ended } =
      (inspect r.tolerance x).intact.elim u fun i => u.takeIntact b i.1 i.2 r.counter := by
  have hr : s.receptionOf b { x with upTo := .ended } = r := by
    rw [receptionOf_ended rfl, hrx]
    rfl
  rw [receive_eq_takePart (x := { x with upTo := .ended }) hopen htime (by rw [hr]; exact htaken), hr, State.takePart]
  have hsame : inspect r.tolerance { x with upTo := .ended } = inspect r.tolerance x := rfl
  rw [hsame]
  cases (inspect r.tolerance x).intact <;> rfl

theorem receive_whole (hlistening : s.Listening b) (htime : x.inTime = true) :
    let tol := s.settings.tolerance
    let u := (s.reportFound b (inspect tol x).faults).afterPreamble b (inspect tol x).faults
    s.receive b { x with upTo := .ended } =
      (inspect tol x).intact.elim u fun i => u.takeIntact b i.1 i.2 (s.branch b).rangeCounter := by
  intro tol u
  rw [receive_taken (x := { x with upTo := .ended }) hlistening htime rfl]
  have hsame : inspect s.settings.tolerance { x with upTo := .ended } = inspect tol x := rfl
  rw [hsame]
  cases (inspect tol x).intact <;> rfl

theorem receive_in_parts (hlistening : s.Listening b) (htime : x.inTime = true) (hp : p ≠ .ended) :
    (s.receive b { x with upTo := p }).receive b { x with upTo := .ended } = s.receive b { x with upTo := .ended } := by
  have hopen := hlistening.1
  have hfree := hlistening.2
  rw [receive_first_part hlistening htime hp, receive_whole hlistening htime]
  generalize hr : Reception.mk s.settings.tolerance p (s.branch b).rangeCounter true = r
  have htol : r.tolerance = s.settings.tolerance := by rw [← hr]
  have hupto : r.upTo = p := by rw [← hr]
  generalize hfirst : foundBetween .begun p (inspect s.settings.tolerance x).faults = first
  have hsplit := foundBetween_append (inspect_inOrder s.settings.tolerance x) p
  rw [hfirst] at hsplit
  have hrx : (((s.setReception b (some r)).reportFound b first).lane b).rx = some r :=
    (reportFound_lane _ b first).2.trans (setReception_rx s b _)
  have hopened : ((s.setReception b (some r)).reportFound b first).OpenLane b :=
    ⟨(reportFound_startup ..).trans hopen.1, (reportFound_lane _ b first).1.trans
      ((congrArg Lane.closed (State.setLane_lane_same ..)).trans hopen.2)⟩
  by_cases hcloses : .preambleLost ∈ first ∧ s.settings.recovery = .close
  · -- the first part has closed the lane, and its fault is the only one
    have hlost := faults_of_lost (tol := s.settings.tolerance) (x := x) (by
      rw [← hsplit]
      exact List.mem_append_left _ hcloses.1)
    have hfirst' : first = [.preambleLost] := by
      rw [← hfirst, hlost] at hcloses ⊢
      refine (List.filter_eq_self.mpr fun k hk => ?_)
      rw [List.mem_singleton] at hk
      simpa [hk] using (mem_foundBetween.mp hcloses.1).2
    rw [hlost, hfirst', afterPreamble_closes (s := (s.setReception b (some r)).reportFound b _)
      ⟨List.mem_singleton_self _, (congrArg Settings.recovery (reportFound_settings ..)).trans hcloses.2⟩,
      afterPreamble_closes (s := s.reportFound b _)
      ⟨List.mem_singleton_self _, (congrArg Settings.recovery (reportFound_settings ..)).trans hcloses.2⟩]
    rw [receive_lost (.inr (.inr (.inl (congrArg Lane.closed (State.setLane_lane_same ..))))), ignoreBurst_ended rfl,
      reportFound_setReception, closeLane_setReception, setReception_setReception]
    refine setReception_none ?_
    exact (congrArg Lane.rx (State.setLane_lane_same ..)).trans ((reportFound_lane s b _).2.trans hfree)
  · rw [afterPreamble_stays (s := (s.setReception b (some r)).reportFound b first)
      (by rw [reportFound_settings]; exact hcloses)]
    rw [receive_end hopened htime hrx (by rw [← hr]), htol, hupto]
    have hsame : (((s.setReception b (some r)).reportFound b first).setReception b none).reportFound b
        (foundBetween p .ended (inspect s.settings.tolerance x).faults) =
        s.reportFound b (inspect s.settings.tolerance x).faults := by
      rw [← reportFound_setReception, setReception_setReception, ← reportFound_append, hsplit, setReception_none hfree]
    have hafter : (s.reportFound b (inspect s.settings.tolerance x).faults).afterPreamble b
        (foundBetween p .ended (inspect s.settings.tolerance x).faults) =
        (s.reportFound b (inspect s.settings.tolerance x).faults).afterPreamble b (inspect s.settings.tolerance x).faults := by
      refine afterPreamble_congr fun hclose => ⟨fun h => (mem_foundBetween.mp h).1, fun h => ?_⟩
      rw [reportFound_settings] at hclose
      rw [← hsplit] at h
      exact (List.mem_append.mp h).resolve_left fun hno => hcloses ⟨hno, hclose⟩
    rw [hsame, hafter, ← hr]

end

/-! The provider of an accepted burst (R88) -/

section
variable {s : State} {b : Branch} {tag : BitVec 3}

theorem noteProvider_zero : s.noteProvider b 0 = s := if_pos rfl

theorem noteProvider_eq (h : tag ≠ 0) :
    let u := s.setLane b { s.lane b with seen := (s.lane b).seen ||| (1#8 <<< tag.toNat) }
    s.noteProvider b tag = if s.settings.providers &&& (1#8 <<< tag.toNat) = 0 then u.reportFault b .providerOffSeen
      else u := by
  intro u
  have hoff : u.settings.tagOff tag = true ↔ s.settings.providers &&& (1#8 <<< tag.toNat) = 0 := by
    rw [tagOff_eq, decide_eq_true_iff, State.setLane_settings, and_iff_right h]
  rw [State.noteProvider, if_neg h]
  exact if_congr hoff rfl rfl

theorem noteProvider_frame (s : State) (b : Branch) (tag : BitVec 3) : s.noteProvider b tag =
    { s with lanes := (s.noteProvider b tag).lanes, ports := (s.noteProvider b tag).ports } := by
  unfold State.noteProvider
  dsimp only
  split_ifs
  · rfl
  · rw [reportFault_frame]
    rfl
  · rfl

end

/-- Settles O60. -/
theorem acceptedBurstsNoteTheirProvider : Obligations.AcceptedBurstsNoteTheirProvider := by
  refine ⟨fun s b tag => ⟨fun hzero => ?zero, fun htag hon => ?on, fun htag hoff => ?off⟩,
    fun s b kind x p t hlistening htime hp row hrow hfirst => ?parts,
    fun s b x r h payload hopen htime hend hr htaken hintact => ?accepted⟩
  case zero => rw [hzero, noteProvider_zero]
  case on => rw [noteProvider_eq htag, if_neg hon]
  case off => rw [noteProvider_eq htag, if_pos hoff]
  case parts =>
    rw [exec_burst_row hrow] at hfirst
    rw [exec_burst_row hrow, exec_burst_row hrow, ← receive_in_parts hlistening htime hp, Host.Outcome.next.inj hfirst]
  case accepted =>
    intro found u n raw obs
    have hreceived := receive_intact hopen htime hend hr htaken hintact
    generalize hv : (s.setLane b { s.lane b with rx := none }).reportFound b
      (foundBetween r.upTo .ended (inspect r.tolerance x).faults) = v at hreceived
    have hu : u = v.noteProvider b h.tag := by rw [← hv]
    have hv' : v = { s with lanes := v.lanes, ports := v.ports } := by
      rw [← hv, reportFound_frame]
      rfl
    have hu' : u = { s with lanes := u.lanes, ports := u.ports } := by
      rw [hu, noteProvider_frame, hv']
    have htake (k : BurstKind) (hkind : burstKindOf h.kind = some k) (hinvited : k.invited (s.branch b).window = true)
        (hdrop : k = .presence → s.presenceDrop b n ≠ none) :
        s.receive b x = u.handOn b k ⟨n, h.tag, raw, obs⟩ r.counter := by
      rw [hreceived, takeIntact_known hkind, takeKnown_accepted (by rw [hv']; exact hinvited)
        (by rw [hv']; exact hdrop), hu]
    have hholder : u.holderOf n = s.holderOf n := by
      rw [hu']
      rfl
    refine ⟨fun hkind hwindow => congrArg Host.Outcome.next ?_, fun hkind hwindow => congrArg Host.Outcome.next ?_,
      fun hkind hwindow => congrArg Host.Outcome.next ?_,
      fun d hkind hbranch hserial honly hstate => congrArg Host.Outcome.next ?_⟩
    · rw [htake .hello (by rw [hkind]; rfl) (decide_eq_true hwindow) (fun h => nomatch h), ← hholder]
      rfl
    · rw [htake .matchReply (by rw [hkind]; rfl) (decide_eq_true hwindow) (fun h => nomatch h)]
      rfl
    · rw [htake .rangeReply (by rw [hkind]; rfl) (decide_eq_true hwindow) (fun h => nomatch h)]
      rfl
    · have hdrop : s.presenceDrop b n = some d := by
        rw [← hbranch]
        exact presenceDrop_eq_some hserial honly hstate
      have hdrop' : u.presenceDrop b n = some d := by
        rw [hu']
        exact hdrop
      rw [htake .presence (by rw [hkind]; rfl) rfl (fun _ => by rw [hdrop]; exact Option.some_ne_none d)]
      simp only [State.handOn, hdrop']

end Sys2Proof.Machine

/-! PROOFS. Effective levels (R6, R7), the level judgement (R129), and a PRESENCE burst of an ACTIVE and of a SILENT entry
(R125, R128). -/

namespace Sys2Proof.Machine

section
variable {s : State} {d : Drop}

theorem offsetCode_working (h : (s.entry d).offsetSource = .working) : s.offsetCode d = (s.entry d).workingOffset := by
  simp only [State.offsetCode, h]

theorem offsetCode_filled {body : FilledBody} (h : (s.entry d).offsetSource = .store) (himage : s.image d = .filled body) :
    s.offsetCode d = body.offset := by
  simp only [State.offsetCode, h, himage]

theorem offsetCode_unfilled (h : (s.entry d).offsetSource = .store) (himage : ∀ body, s.image d ≠ .filled body) :
    s.offsetCode d = 64 := by
  simp only [State.offsetCode, h]

/-- The level judgement reads the entry's offset alone. -/
theorem levelOf_setEntry (raw : Nat) {e : Entry} (hsource : e.offsetSource = (s.entry d).offsetSource)
    (hoffset : e.workingOffset = (s.entry d).workingOffset) : (s.setEntry d e).levelOf d raw = s.levelOf d raw := by
  simp only [State.levelOf, State.offsetCode, State.setEntry_entry_same, hsource, hoffset, State.setEntry_image]

theorem setEntry_setEntry (s : State) (d : Drop) (e f : Entry) : (s.setEntry d e).setEntry d f = s.setEntry d f := by
  simp only [State.setEntry, Vector.set_set]

/-- The level of a PRESENCE burst that changes the entry's presence record alone is judged in one step with it. -/
theorem judgeLevel_after_presence (s : State) (d : Drop) (raw : Nat) (record : Option PresenceRecord) :
    let level := s.levelOf d raw
    let out := decide (level < s.settings.acceptLow ∨ s.settings.acceptHigh < level)
    let t := s.setEntry d { s.entry d with presence := record, lastLevel := some level, levelDrift := out }
    (s.setEntry d { s.entry d with presence := record }).judgeLevel d raw =
      if out = true ∧ (s.entry d).levelDrift = false then t.raise .levelDrift else t := by
  intro level out t
  have hlevel : (s.setEntry d { s.entry d with presence := record }).levelOf d raw = level := levelOf_setEntry raw rfl rfl
  rw [State.judgeLevel, hlevel, State.setEntry_entry_same, setEntry_setEntry, State.setEntry_settings]
  refine if_congr ?_ rfl rfl
  simp only [Bool.and_eq_true, Bool.not_eq_true']
  rfl

theorem presenceActive_eq {p : PresenceRecord} (raw : Nat) (hpresence : (s.entry d).presence = some p) :
    let level := s.levelOf d raw
    let out := decide (level < s.settings.acceptLow ∨ s.settings.acceptHigh < level)
    let t := s.setEntry d { s.entry d with
      presence := some { p with lastInterval := p.running, running := 0 }, lastLevel := some level, levelDrift := out }
    s.presenceActive d raw = if out = true ∧ (s.entry d).levelDrift = false then t.raise .levelDrift else t := by
  rw [State.presenceActive, hpresence]
  exact judgeLevel_after_presence s d raw _

theorem presenceSilent_eq {p : PresenceRecord} (raw : Nat) (hpresence : (s.entry d).presence = some p) :
    let level := s.levelOf d raw
    let out := decide (level < s.settings.acceptLow ∨ s.settings.acceptHigh < level)
    let t := s.setEntry d { s.entry d with
      presence := some { p with heardWhileSilent := true }, lastLevel := some level, levelDrift := out }
    s.presenceSilent d raw = if out = true ∧ (s.entry d).levelDrift = false then t.raise .levelDrift else t := by
  rw [State.presenceSilent, hpresence]
  exact judgeLevel_after_presence s d raw _

theorem takePresence_active (raw : Nat) (h : (s.entry d).state = .active) : s.takePresence d raw = s.presenceActive d raw := by
  simp only [State.takePresence, h]

theorem takePresence_silent (raw : Nat) (h : (s.entry d).state = .silent) : s.takePresence d raw = s.presenceSilent d raw := by
  simp only [State.takePresence, h]

/-- A clean PRESENCE burst without a tag and without an echo goes to the entry of its serial alone. -/
theorem exec_presence_clean {n : Serial} {raw : Nat} {obs : Steps} (hlistening : s.Listening d.branch) (hn : n ≠ 0)
    (hraw : raw ≤ 127) (hdrop : s.presenceDrop d.branch n = some d)
    (hecho : ∀ g, (s.gen g).attached.isSome = true → (s.gen g).observed ≠ obs) :
    exec (.presence d.branch (cleanBurst 4 0 n (payloadOf raw obs))) s = .next (s.takePresence d raw) := by
  refine congrArg Host.Outcome.next ((receive_cleanBurst (k := .presence) hlistening rfl hn rfl).trans ?_)
  rw [takeKnown_accepted rfl fun _ => by rw [hdrop]; exact Option.some_ne_none d, noteProvider_zero]
  simp only [State.handOn, hdrop, payloadObservation_payloadOf, payloadLevel_payloadOf obs hraw,
    takeEcho_of_no_echo hecho]

end

/-- Settles O15. -/
theorem presenceBurstsCountAndJudgeLevel : Obligations.PresenceBurstsCountAndJudgeLevel := by
  refine ⟨fun s d raw => ⟨?clamped, offsetCode_working, fun hstore => ⟨fun _ => offsetCode_filled hstore,
      offsetCode_unfilled hstore⟩⟩,
    fun s d n raw obs p hlistening hn hraw hserial honly hstate hpresence hecho => ?active,
    fun s d raw p hstate hpresence => ?silent⟩
  case clamped =>
    rw [State.levelOf, effectiveLevel]
    omega
  case active =>
    rw [exec_presence_clean hlistening hn hraw (presenceDrop_eq_some hserial honly (.inl hstate)) hecho,
      takePresence_active raw hstate, presenceActive_eq raw hpresence]
  case silent => exact (takePresence_silent raw hstate).trans (presenceSilent_eq raw hpresence)

end Sys2Proof.Machine

/-! PROOFS. The ends of the listening periods (R58, R60, R63, R66) and the frame marks (R40, R109, R110). -/

namespace Sys2Proof.Machine

/-! What a grant of the window leaves (R36) -/

section
variable (s : State) (b : Branch)

theorem sendCall_branch (call : Call) (c : Branch) : (s.sendCall b call).branch c = s.branch c := rfl

/-- A grant touches the branch and the lane alone. -/
theorem grant_frame : s.grant b = { s with branches := (s.grant b).branches, lanes := (s.grant b).lanes } := by
  rcases grant_cases s b with h | h | h | ⟨j, js, hqueue, -, h⟩ <;> rw [h]
  · rfl
  · unfold State.matchAttempt State.setHead
    split <;> rfl
  · unfold State.rangeTry
    rw [setHead_eq hqueue]
    rfl

theorem grant_entry (d : Drop) : (s.grant b).entry d = s.entry d := by
  rw [grant_frame]
  rfl

theorem grant_gen (g : Gen) : (s.grant b).gen g = s.gen g := by
  rw [grant_frame]
  rfl

theorem grant_branch_ne {c : Branch} (hne : c ≠ b) : (s.grant b).branch c = s.branch c := by
  rcases grant_cases s b with h | h | h | ⟨j, js, hqueue, -, h⟩ <;> rw [h]
  · exact State.setBranch_branch_ne _ _ _ _ hne.symm
  · cases hqueue : s.queue b with
    | nil =>
      have hhead : s.setHead b (fun j => { j with attempts := j.attempts + 1 }) = s := by simp only [State.setHead, hqueue]
      rw [State.matchAttempt, hhead]
      exact State.setBranch_branch_ne _ _ _ _ hne.symm
    | cons j js =>
      rw [matchAttempt_eq hqueue]
      exact State.setBranch_branch_ne _ _ _ _ hne.symm
  · unfold State.rangeTry
    rw [setHead_eq hqueue]
    exact (State.setBranch_branch_ne _ _ _ _ hne.symm).trans (State.setBranch_branch_ne _ _ _ _ hne.symm)

/-- A grant leaves the count of frame marks, and the queue but for one more attempt of its head. -/
theorem grant_branch_same : ((s.grant b).branch b).frameMarks = (s.branch b).frameMarks ∧
    ((s.grant b).queue b = s.queue b ∨ ∃ j js, s.queue b = j :: js ∧
      (s.grant b).queue b = { j with attempts := j.attempts + 1 } :: js) := by
  rcases grant_cases s b with h | h | h | ⟨j, js, hqueue, -, h⟩ <;> rw [h]
  · exact ⟨rfl, .inl rfl⟩
  · rw [State.queue, State.openCall, sendCall_branch, State.setBranch_branch_same]
    exact ⟨rfl, .inl rfl⟩
  · cases hqueue : s.queue b with
    | nil =>
      have hhead : s.setHead b (fun j => { j with attempts := j.attempts + 1 }) = s := by simp only [State.setHead, hqueue]
      rw [State.queue, State.matchAttempt, hhead, sendCall_branch, State.setBranch_branch_same]
      exact ⟨rfl, .inl hqueue⟩
    | cons j js =>
      rw [State.queue, matchAttempt_eq hqueue, sendCall_branch, State.setBranch_branch_same]
      exact ⟨rfl, .inr ⟨j, js, rfl, rfl⟩⟩
  · have hbranch : (s.rangeTry b j.drop).branch b = { s.branch b with
        queue := { j with attempts := j.attempts + 1 } :: js, window := .rangeListen
        listenMs := some 200, rangeCounter := some ⟨0, false⟩ } := by
      unfold State.rangeTry
      rw [setHead_eq hqueue, sendCall_branch, dropReading_branch, State.setBranch_branch_same, State.setQueue,
        State.setBranch_branch_same]
    rw [State.queue, hbranch]
    exact ⟨rfl, .inr ⟨j, js, hqueue, rfl⟩⟩

end

/-! The ends of the listening periods -/

theorem isRunning_iff {s : State} : s.isRunning = true ↔ s.startup = .running := decide_eq_true_iff

theorem whileRunning_of {s : State} (act : State → State) (h : s.startup = .running) :
    s.whileRunning act = .next (act s) :=
  whileRunning_run act (isRunning_iff.mpr h)

theorem head_eq {s : State} {b : Branch} {j : Job} {js : List Job} (h : s.queue b = j :: js) : s.head b = some j := by
  rw [State.head, h]
  rfl

section
variable {s : State} {b : Branch} {j : Job}

theorem matchListenEnd_granted (hwindow : (s.branch b).window = .matchListen)
    (h : ∀ j, s.head b = some j → j.stage = .matching →
      (s.branch b).decided.map Prod.snd = some .succeeded ∨ j.attempts < 3) :
    s.matchListenEnd b = (s.setBranch b (s.branch b).endListening).grant b := by
  rw [State.matchListenEnd, if_pos hwindow]
  dsimp only
  split
  next j hhead =>
    refine if_neg fun ⟨hstage, hfailed, hthird⟩ => ?_
    rcases h j hhead hstage with hsucceeded | hfewer
    · exact hfailed hsucceeded
    · omega
  next => rfl

theorem matchListenEnd_givenUp (hwindow : (s.branch b).window = .matchListen) (hhead : s.head b = some j)
    (hstage : j.stage = .matching) (hfailed : (s.branch b).decided.map Prod.snd ≠ some .succeeded)
    (hthird : 3 ≤ j.attempts) : s.matchListenEnd b = (s.setBranch b (s.branch b).endListening).matchGivenUp j := by
  rw [State.matchListenEnd, if_pos hwindow]
  dsimp only
  rw [hhead]
  exact if_pos ⟨hstage, hfailed, hthird⟩

theorem rangeListenTimeout_eq (hwindow : (s.branch b).window = .rangeListen) (hhead : s.head b = some j)
    (hstage : j.stage = .range) : s.rangeListenTimeout b = if 2 ≤ j.attempts then
      (s.setBranch b (s.branch b).endListening).rangeGivenUp j
      else (s.setBranch b (s.branch b).endListening).grant b := by
  rw [State.rangeListenTimeout, if_pos hwindow]
  dsimp only
  rw [hhead]
  exact if_congr (and_iff_right hstage) rfl rfl

theorem admitWaitExpiry_eq (hhead : s.head b = some j) (hstage : j.stage = .admitting) :
    s.admitWaitExpiry b = s.admitExpired b j := by
  rw [State.admitWaitExpiry, hhead]
  exact if_pos hstage

end

theorem decided_succeeded_iff {c : BranchCtl} :
    c.decided.map Prod.snd = some .succeeded ↔ ∃ n, c.decided = some (n, .succeeded) := by
  simp

/-- Settles O46. -/
theorem listeningEndsRetryOrEndJob : Obligations.ListeningEndsRetryOrEndJob := by
  refine ⟨fun s b j js hrun hwindow hqueue => ⟨fun hstage hfailed hthird hstate => ?givenUp, fun hstage hagain => ?again⟩,
    fun s b hrun hwindow hhead => ?outlived,
    fun s b j js hrun hwindow hqueue hstage => ⟨fun hfirst => ?retry, fun hsecond hstate => ?rangeGivenUp⟩,
    fun s b hrun => ⟨fun c hcounter => ?counter, fun j js n hqueue hstage hstate hserial => ?expired⟩⟩
  case givenUp =>
    have hno : (s.branch b).decided.map Prod.snd ≠ some .succeeded := fun h =>
      (decided_succeeded_iff.mp h).elim hfailed
    have hentered := enter_planned (e := s.entry j.drop) (by rw [hstate]; decide)
    refine (whileRunning_of _ hrun).trans (congrArg Host.Outcome.next ?_)
    rw [matchListenEnd_givenUp hwindow (head_eq hqueue) hstage hno hthird, State.matchGivenUp, State.setBranch_entry,
      hentered]
    rfl
  case again =>
    refine (whileRunning_of _ hrun).trans (congrArg Host.Outcome.next ?_)
    refine matchListenEnd_granted hwindow fun k hk _ => ?_
    obtain rfl : j = k := Option.some.inj ((head_eq hqueue).symm.trans hk)
    exact hagain.symm.imp_left decided_succeeded_iff.mpr
  case outlived =>
    refine (whileRunning_of _ hrun).trans (congrArg Host.Outcome.next ?_)
    exact matchListenEnd_granted hwindow fun k hk hstage => absurd hstage (hhead k hk)
  case retry =>
    refine (whileRunning_of _ hrun).trans (congrArg Host.Outcome.next ?_)
    rw [rangeListenTimeout_eq hwindow (head_eq hqueue) hstage, if_neg (by omega)]
    rfl
  case rangeGivenUp =>
    have hentered := enter_bound (e := s.entry j.drop) (by rw [hstate]; decide)
    refine (whileRunning_of _ hrun).trans (congrArg Host.Outcome.next ?_)
    rw [rangeListenTimeout_eq hwindow (head_eq hqueue) hstage, if_pos hsecond, State.rangeGivenUp, State.setBranch_entry,
      hentered]
    rfl
  case counter =>
    refine (whileRunning_of _ hrun).trans (congrArg Host.Outcome.next ?_)
    rw [State.rangeOverflow, hcounter]
    rfl
  case expired =>
    have hentered := enter_bound (e := s.entry j.drop) (by rw [hstate]; decide)
    refine (whileRunning_of _ hrun).trans (congrArg Host.Outcome.next ?_)
    rw [admitWaitExpiry_eq (head_eq hqueue) hstage, State.admitExpired]
    dsimp only
    rw [hentered, hserial]
    rfl

/-! One operation at each branch in turn -/

/-- When each branch's operation leaves the other branches alone, a branch is changed by its own operation only, between
states that the others have brought about. -/
theorem foldl_at_branch {f : State → Branch → State} {R : State → State → Prop} (hrefl : ∀ s, R s s)
    (htrans : ∀ {s t u}, R s t → R t u → R s u) (hstep : ∀ s c, R s (f s c))
    (hothers : ∀ s c b, b ≠ c → (f s c).branch b = s.branch b) {l : List Branch} (hl : l.Nodup) {b : Branch}
    (hb : b ∈ l) (s : State) :
    ∃ u, R s u ∧ u.branch b = s.branch b ∧ R (f u b) (l.foldl f s) ∧ (l.foldl f s).branch b = (f u b).branch b := by
  have hrun (l : List Branch) (s : State) : R s (l.foldl f s) := by
    induction l generalizing s with
    | nil => exact hrefl s
    | cons c l ih => exact htrans (hstep s c) (ih _)
  have hkept (l : List Branch) (hnot : b ∉ l) (s : State) : (l.foldl f s).branch b = s.branch b := by
    induction l generalizing s with
    | nil => rfl
    | cons c l ih =>
      rw [List.mem_cons, not_or] at hnot
      exact (ih hnot.2 _).trans (hothers s c b hnot.1)
  obtain ⟨l1, l2, rfl⟩ := List.append_of_mem hb
  obtain ⟨-, hl2, hdisjoint⟩ := List.nodup_append.mp hl
  have hbefore : b ∉ l1 := fun h => hdisjoint b h b (List.mem_cons_self ..) rfl
  rw [List.foldl_append, List.foldl_cons]
  exact ⟨l1.foldl f s, hrun l1 s, hkept l1 hbefore s, hrun l2 _, hkept l2 (List.nodup_cons.mp hl2).1 _⟩

theorem mem_allBranches (b : Branch) : b ∈ allBranches := List.mem_finRange b

theorem nodup_allBranches : allBranches.Nodup := List.nodup_finRange 4

/-! Frame marks -/

section
variable {s : State} {b : Branch} {j : Job} {js : List Job}

theorem enterMatch_eq (hqueue : s.queue b = j :: js) (hstage : j.stage = .waitTrace) : s.enterMatch b =
    ((s.setBranch b { s.branch b with
      frameMarks := none, queue := { j with stage := .matching, attempts := 0 } :: js }).setEntry j.drop
        ((s.entry j.drop).enter .binding)).grant b := by
  rw [State.enterMatch, head_eq hqueue]
  dsimp only
  rw [if_pos hstage, setHead_eq hqueue]
  have hcommute (u : State) (d : Drop) (e : Entry) (v : BranchCtl) :
      (u.setEntry d e).setBranch b v = (u.setBranch b v).setEntry d e := rfl
  rw [hcommute, State.setEntry_branch, State.setQueue, State.setBranch_branch_same, setBranch_setBranch]

theorem enterMatch_stays (h : ∀ j ∈ s.head b, j.stage ≠ .waitTrace) : s.enterMatch b = s := by
  unfold State.enterMatch
  split
  next j hhead => exact if_neg (h j hhead)
  next => rfl

theorem countDone_iff : s.countDone b = true ↔ ∃ n, (s.branch b).frameMarks = some n ∧ 3 ≤ n := by
  unfold State.countDone
  cases (s.branch b).frameMarks <;> simp

end

/-- What the frame marks can touch: the Branch Controllers, the lanes and the entries, of which none leaves BINDING. -/
def MarkWork (s t : State) : Prop :=
  t = { s with branches := t.branches, lanes := t.lanes, roster := t.roster } ∧
    ∀ d, (s.entry d).state = .binding → (t.entry d).state = .binding

theorem MarkWork.refl (s : State) : MarkWork s s := ⟨rfl, fun _ h => h⟩

theorem MarkWork.trans {s t u : State} (hst : MarkWork s t) (htu : MarkWork t u) : MarkWork s u := by
  refine ⟨?_, fun d h => htu.2 d (hst.2 d h)⟩
  rw [htu.1]
  rw [hst.1]

theorem markWork_grant (s : State) (b : Branch) : MarkWork s (s.grant b) := by
  refine ⟨?_, fun d h => by rw [grant_entry]; exact h⟩
  rw [grant_frame]

theorem enter_binding_state (e : Entry) : (e.enter .binding).state = .binding := by
  unfold Entry.enter
  split
  next h => exact h
  next => rfl

theorem enterMatch_cases (s : State) (b : Branch) :
    s.enterMatch b = s ∨ ∃ j js, s.queue b = j :: js ∧ j.stage = .waitTrace := by
  by_cases h : ∀ j ∈ s.head b, j.stage ≠ .waitTrace
  · exact .inl (enterMatch_stays h)
  · cases hqueue : s.queue b with
    | nil =>
      refine absurd (fun j hj => ?_) h
      rw [State.head, hqueue] at hj
      cases hj
    | cons j js =>
      rw [head_eq hqueue] at h
      exact .inr ⟨j, js, rfl, by simpa using h⟩

theorem markWork_enterMatch (s : State) (b : Branch) : MarkWork s (s.enterMatch b) := by
  rcases enterMatch_cases s b with h | ⟨j, js, hqueue, hstage⟩
  · rw [h]
    exact .refl s
  · rw [enterMatch_eq hqueue hstage]
    refine MarkWork.trans ⟨rfl, fun d h => ?_⟩ (markWork_grant _ b)
    rw [State.setEntry_entry]
    split
    · exact enter_binding_state _
    · exact h

theorem enterMatch_branch_ne {s : State} {b c : Branch} (hne : c ≠ b) : (s.enterMatch b).branch c = s.branch c := by
  rcases enterMatch_cases s b with h | ⟨j, js, hqueue, hstage⟩
  · rw [h]
  · rw [enterMatch_eq hqueue hstage, grant_branch_ne _ _ hne]
    exact State.setBranch_branch_ne _ _ _ _ hne.symm

/-- The job that enters MATCH stays the head of its queue, and its entry is BINDING (R40, R41). -/
theorem enterMatch_head {s : State} {b : Branch} {j : Job} {js : List Job} (hqueue : s.queue b = j :: js)
    (hstage : j.stage = .waitTrace) : ((s.enterMatch b).branch b).frameMarks = none ∧
      ((s.enterMatch b).entry j.drop).state = .binding ∧
      ∃ k ks, (s.enterMatch b).queue b = k :: ks ∧ k.drop = j.drop ∧ k.stage = .matching := by
  rw [enterMatch_eq hqueue hstage]
  generalize hu : (s.setBranch b { s.branch b with
    frameMarks := none, queue := { j with stage := .matching, attempts := 0 } :: js }).setEntry j.drop
      ((s.entry j.drop).enter .binding) = u
  have hbranch : u.branch b = { s.branch b with
      frameMarks := none, queue := { j with stage := .matching, attempts := 0 } :: js } := by
    rw [← hu]
    exact State.setBranch_branch_same ..
  have hentry : (u.entry j.drop).state = .binding := by
    rw [← hu, State.setEntry_entry_same]
    exact enter_binding_state _
  have hqueue' : u.queue b = { j with stage := .matching, attempts := 0 } :: js := congrArg BranchCtl.queue hbranch
  obtain ⟨hmarks, hsame⟩ := grant_branch_same u b
  refine ⟨hmarks.trans (congrArg BranchCtl.frameMarks hbranch), by rw [grant_entry]; exact hentry, ?_⟩
  rcases hsame with hsame | ⟨k, ks, hk, hsame⟩
  · exact ⟨_, js, hsame.trans hqueue', rfl, rfl⟩
  · obtain ⟨rfl, rfl⟩ := List.cons.inj (hk.symm.trans hqueue')
    exact ⟨_, _, hsame, rfl, rfl⟩

section
variable {s : State} {b : Branch} {changed : Bool}

theorem branchMark_idle (h : (s.branch b).frameMarks = none) : s.branchMark changed b = s := by
  rw [State.branchMark, h]

theorem branchMark_counted {n : Nat} (h : (s.branch b).frameMarks = some n) : s.branchMark changed b =
    if 3 ≤ (if changed then 1 else n + 1) then
      (s.setBranch b { s.branch b with frameMarks := some (if changed then 1 else n + 1) }).enterMatch b
    else s.setBranch b { s.branch b with frameMarks := some (if changed then 1 else n + 1) } := by
  rw [State.branchMark, h]
  refine if_congr (countDone_iff.trans ?_) rfl rfl
  rw [State.setBranch_branch_same]
  exact ⟨fun ⟨m, hm, hle⟩ => by rw [Option.some.inj hm]; exact hle, fun hle => ⟨_, rfl, hle⟩⟩

theorem markWork_branchMark (s : State) (b : Branch) : MarkWork s (s.branchMark changed b) := by
  cases h : (s.branch b).frameMarks with
  | none =>
    rw [branchMark_idle h]
    exact .refl s
  | some n =>
    have hcounted (v : BranchCtl) : MarkWork s (s.setBranch b v) := ⟨rfl, fun _ h => h⟩
    rw [branchMark_counted h]
    generalize (if changed then 1 else n + 1) = m
    split
    · exact (hcounted _).trans (markWork_enterMatch _ b)
    · exact hcounted _

theorem branchMark_branch_ne {c : Branch} (hne : c ≠ b) : (s.branchMark changed b).branch c = s.branch c := by
  cases h : (s.branch b).frameMarks with
  | none => rw [branchMark_idle h]
  | some n =>
    rw [branchMark_counted h]
    generalize (if changed then 1 else n + 1) = m
    split
    · rw [enterMatch_branch_ne hne]
      exact State.setBranch_branch_ne _ _ _ _ hne.symm
    · exact State.setBranch_branch_ne _ _ _ _ hne.symm

end

/-- A frame mark at a branch: the state in which the branch takes it, and what the others do after it. -/
theorem frameMark_at {s : State} {f : FrameTimer} (hframe : s.frame = some f) (b : Branch) : ∃ u,
    MarkWork { s with frame := some ⟨s.settings.stepWidth, 1⟩ } u ∧ u.branch b = s.branch b ∧
      MarkWork (u.branchMark (s.settings.stepWidth ≠ f.width) b) s.frameMark ∧
      s.frameMark.branch b = (u.branchMark (s.settings.stepWidth ≠ f.width) b).branch b := by
  rw [State.frameMark, hframe]
  exact foldl_at_branch MarkWork.refl MarkWork.trans markWork_branchMark
    (fun s c b hne => branchMark_branch_ne hne) nodup_allBranches (mem_allBranches b) _

theorem frameMark_work {s : State} {f : FrameTimer} (hframe : s.frame = some f) :
    MarkWork { s with frame := some ⟨s.settings.stepWidth, 1⟩ } s.frameMark := by
  obtain ⟨u, hbefore, -, hafter, -⟩ := frameMark_at hframe 0
  exact hbefore.trans ((markWork_branchMark u 0).trans hafter)

/-- Settles O47: each branch takes the mark by itself, whatever the others do. -/
theorem frameMarksAndCounts : Obligations.FrameMarksAndCounts := by
  refine ⟨fun s f hrun hframe => ⟨⟨s.frameMark, whileRunning_of _ hrun, ?frame, ?kept, fun b hidle => ?idle,
      fun b j js n hqueue hstage hmarks => ?counted⟩, fun hstep => ?step, fun htwelfth => ?twelfth⟩,
    fun s b j js n hrun hqueue hstage hmarks => ⟨fun hthree hstate => ?enters, fun hfewer => ?waits⟩⟩
  case frame => rw [(frameMark_work hframe).1]
  case kept =>
    have hwork := (frameMark_work hframe).1
    rw [hwork]
  case idle =>
    obtain ⟨u, -, hbranch, -, hafter⟩ := frameMark_at hframe b
    rw [hafter, branchMark_idle (by rw [hbranch]; exact hidle), hbranch]
  case counted =>
    obtain ⟨u, -, hbranch, hothers, hafter⟩ := frameMark_at hframe b
    have hcount : (if decide (s.settings.stepWidth ≠ f.width) = true then 1 else n + 1) =
        if s.settings.stepWidth = f.width then n + 1 else 1 := by
      by_cases h : s.settings.stepWidth = f.width <;> simp [h]
    rw [branchMark_counted (by rw [hbranch]; exact hmarks), hcount, hbranch] at hothers hafter
    intro m
    refine ⟨fun hfew => ?_, fun hdone => ?_⟩
    · rw [if_neg (by omega)] at hafter
      exact hafter.trans (State.setBranch_branch_same ..)
    · rw [if_pos hdone] at hothers hafter
      have hqueue' : (u.setBranch b { s.branch b with frameMarks := some m }).queue b = j :: js :=
        (congrArg BranchCtl.queue (State.setBranch_branch_same ..)).trans hqueue
      obtain ⟨hnone, hentry, k, ks, hk, hdrop, hmatching⟩ := enterMatch_head hqueue' hstage
      exact ⟨(congrArg BranchCtl.frameMarks hafter).trans hnone, hothers.2 _ hentry, k, ks,
        (congrArg BranchCtl.queue hafter).trans hk, hdrop, hmatching⟩
  case step =>
    refine (whileRunning_of _ hrun).trans (congrArg Host.Outcome.next ?_)
    simp only [State.traceStep, hframe, if_pos hstep]
  case twelfth =>
    refine (whileRunning_of _ hrun).trans (congrArg Host.Outcome.next ?_)
    simp only [State.traceStep, hframe, if_neg (Nat.not_lt.mpr htwelfth)]
  case enters =>
    refine (whileRunning_of _ hrun).trans (congrArg Host.Outcome.next ?_)
    rw [if_pos (countDone_iff.mpr ⟨n, hmarks, hthree⟩), enterMatch_eq hqueue hstage, Entry.enter,
      if_neg (by rw [hstate]; decide)]
  case waits =>
    refine (whileRunning_of _ hrun).trans (congrArg Host.Outcome.next (if_neg fun h => ?_))
    obtain ⟨m, hm, hthree⟩ := countDone_iff.mp h
    obtain rfl : n = m := Option.some.inj (hmarks.symm.trans hm)
    omega

end Sys2Proof.Machine

/-! PROOFS. The base tick (R123, R124, R127) and the minute tick (R103, R139). -/

namespace Sys2Proof.Machine

/-! One operation at each drop in turn -/

/-- When each drop's operation leaves the other entries alone, an entry is changed by its own operation only. -/
theorem foldl_at_drop {f : State → Drop → State} {R : State → State → Prop} (hrefl : ∀ s, R s s)
    (htrans : ∀ {s t u}, R s t → R t u → R s u) (hstep : ∀ s e, R s (f s e))
    (hothers : ∀ s e d, d ≠ e → (f s e).entry d = s.entry d) (d : Drop) (s : State) :
    ∃ u, R s u ∧ u.entry d = s.entry d ∧ R (f u d) (allDrops.foldl f s) ∧
      (allDrops.foldl f s).entry d = (f u d).entry d := by
  have hrun (l : List Drop) (s : State) : R s (l.foldl f s) := by
    induction l generalizing s with
    | nil => exact hrefl s
    | cons e l ih => exact htrans (hstep s e) (ih _)
  have hkept (l : List Drop) (hnot : d ∉ l) (s : State) : (l.foldl f s).entry d = s.entry d := by
    induction l generalizing s with
    | nil => rfl
    | cons e l ih =>
      rw [List.mem_cons, not_or] at hnot
      exact (ih hnot.2 _).trans (hothers s e d hnot.1)
  obtain ⟨l1, l2, hsplit⟩ := List.append_of_mem (List.mem_finRange d)
  obtain ⟨-, hl2, hdisjoint⟩ := List.nodup_append.mp (hsplit ▸ List.nodup_finRange 64)
  have hbefore : d ∉ l1 := fun h => hdisjoint d h d (List.mem_cons_self ..) rfl
  rw [allDrops, hsplit, List.foldl_append, List.foldl_cons]
  exact ⟨l1.foldl f s, hrun l1 s, hkept l1 hbefore s, hrun l2 _, hkept l2 (List.nodup_cons.mp hl2).1 _⟩

/-! The base tick -/

/-- What the base tick can touch after its number: the entries, and the SILENCE flags, which stand once raised. -/
def SilenceWork (s t : State) : Prop :=
  t = { s with roster := t.roster, ports := t.ports } ∧
    ∀ p i, (s.port p).events.getLsbD i = true → (t.port p).events.getLsbD i = true

theorem SilenceWork.refl (s : State) : SilenceWork s s := ⟨rfl, fun _ _ h => h⟩

theorem SilenceWork.trans {s t u : State} (hst : SilenceWork s t) (htu : SilenceWork t u) : SilenceWork s u := by
  refine ⟨?_, fun p i h => htu.2 p i (hst.2 p i h)⟩
  rw [htu.1]
  rw [hst.1]

theorem raise_events_getLsbD (p : PortRecord) (e : Event) (i : Nat) :
    (p.raise e).events.getLsbD i = (p.events.getLsbD i || decide (i = e.index)) :=
  or_oneBit_getLsbD p.events (event_index_lt e) i

section
variable {s : State} {d : Drop}

theorem countEntry_cases (s : State) (d : Drop) :
    s.countEntry d = s ∨ ∃ p, (s.entry d).state = .active ∧ (s.entry d).presence = some p ∧ p.due s.baseTick = true ∧
      s.countEntry d = s.setEntry d { s.entry d with presence := some p.count } := by
  unfold State.countEntry
  dsimp only
  split
  next p hstate hpresence =>
    split
    next hdue => exact .inr ⟨p, hstate, hpresence, hdue, rfl⟩
    next => exact .inl rfl
  next => exact .inl rfl

theorem countEntry_due {p : PresenceRecord} (hstate : (s.entry d).state = .active)
    (hpresence : (s.entry d).presence = some p) (hdue : p.due s.baseTick = true) :
    s.countEntry d = s.setEntry d { s.entry d with presence := some p.count } := by
  simp only [State.countEntry, hstate, hpresence, if_pos hdue]

theorem silenceWork_countEntry (s : State) (d : Drop) : SilenceWork s (s.countEntry d) := by
  rcases countEntry_cases s d with h | ⟨p, -, -, -, h⟩ <;> rw [h]
  · exact .refl s
  · exact ⟨rfl, fun _ _ h => h⟩

theorem countEntry_entry_ne {e : Drop} (hne : e ≠ d) : (s.countEntry d).entry e = s.entry e := by
  rcases countEntry_cases s d with h | ⟨p, -, -, -, h⟩ <;> rw [h]
  exact State.setEntry_entry_ne _ _ _ _ hne.symm

theorem limitReached_iff : s.limitReached d = true ↔
    ∃ p, (s.entry d).state = .active ∧ (s.entry d).presence = some p ∧ p.silenceLimit ≤ p.running := by
  unfold State.limitReached
  split
  next p hstate hpresence =>
    rw [decide_eq_true_iff]
    exact ⟨fun h => ⟨p, hstate, hpresence, h⟩, fun ⟨q, _, hq, h⟩ => Option.some.inj (hpresence.symm.trans hq) ▸ h⟩
  next hno =>
    refine ⟨fun h => (by cases h), fun ⟨p, hstate, hpresence, _⟩ => absurd hpresence (hno p hstate)⟩

theorem silenceIfDue_reached {p : PresenceRecord} (hstate : (s.entry d).state = .active)
    (hpresence : (s.entry d).presence = some p) (hlimit : p.silenceLimit ≤ p.running) :
    s.silenceIfDue d = (s.setEntry d { s.entry d with
      state := .silent, rejoinPending := false, presence := some { p with frozen := true } }).raise .silence := by
  have hentered : (s.entry d).enter .silent = { s.entry d with state := .silent, rejoinPending := false } :=
    if_neg (by rw [hstate]; decide)
  rw [State.silenceIfDue, if_pos (limitReached_iff.mpr ⟨p, hstate, hpresence, hlimit⟩), State.silence, hentered, hpresence]
  rfl

theorem silenceIfDue_stays (h : ∀ p, (s.entry d).state = .active → (s.entry d).presence = some p →
    p.running < p.silenceLimit) : s.silenceIfDue d = s := by
  refine if_neg fun hreached => ?_
  obtain ⟨p, hstate, hpresence, hlimit⟩ := limitReached_iff.mp hreached
  have := h p hstate hpresence
  omega

theorem silenceIfDue_cases (s : State) (d : Drop) :
    s.silenceIfDue d = s ∨ ∃ p, (s.entry d).state = .active ∧ (s.entry d).presence = some p ∧ p.silenceLimit ≤ p.running := by
  by_cases h : s.limitReached d = true
  · exact .inr (limitReached_iff.mp h)
  · exact .inl (if_neg h)

theorem silenceWork_silenceIfDue (s : State) (d : Drop) : SilenceWork s (s.silenceIfDue d) := by
  rcases silenceIfDue_cases s d with h | ⟨p, hstate, hpresence, hlimit⟩
  · rw [h]
    exact .refl s
  · rw [silenceIfDue_reached hstate hpresence hlimit]
    refine ⟨rfl, fun q i h => ?_⟩
    rw [State.raise_port, raise_events_getLsbD, State.setEntry_port, h]
    rfl

theorem silenceIfDue_entry_ne {e : Drop} (hne : e ≠ d) : (s.silenceIfDue d).entry e = s.entry e := by
  rcases silenceIfDue_cases s d with h | ⟨p, hstate, hpresence, hlimit⟩
  · rw [h]
  · rw [silenceIfDue_reached hstate hpresence hlimit]
    exact State.setEntry_entry_ne _ _ _ _ hne.symm

end

/-- An entry at the base tick: the state in which it is counted, and the one in which its limit is looked at. -/
theorem presenceTick_at (s : State) (d : Drop) : ∃ u v,
    SilenceWork { s with baseTick := (s.baseTick + 1) % 8 } u ∧ u.entry d = s.entry d ∧
      SilenceWork (u.countEntry d) v ∧ v.entry d = (u.countEntry d).entry d ∧
      SilenceWork (v.silenceIfDue d) s.presenceTick ∧ s.presenceTick.entry d = (v.silenceIfDue d).entry d := by
  obtain ⟨u, hu, huentry, hcounted, hcentry⟩ := foldl_at_drop SilenceWork.refl SilenceWork.trans silenceWork_countEntry
    (fun s e d hne => countEntry_entry_ne hne) d { s with baseTick := (s.baseTick + 1) % 8 }
  obtain ⟨v, hv, hventry, hsilenced, hsentry⟩ := foldl_at_drop SilenceWork.refl SilenceWork.trans silenceWork_silenceIfDue
    (fun s e d hne => silenceIfDue_entry_ne hne) d
      (allDrops.foldl State.countEntry { s with baseTick := (s.baseTick + 1) % 8 })
  exact ⟨u, v, hu, huentry, hcounted.trans hv, hventry.trans hcentry, hsilenced, hsentry⟩

theorem presenceTick_work (s : State) : SilenceWork { s with baseTick := (s.baseTick + 1) % 8 } s.presenceTick := by
  obtain ⟨u, v, hu, -, hcounted, -, hsilenced, -⟩ := presenceTick_at s 0
  exact hu.trans ((silenceWork_countEntry u 0).trans (hcounted.trans ((silenceWork_silenceIfDue v 0).trans hsilenced)))

theorem due_iff {p : PresenceRecord} {tick : Nat} : p.due tick = true ↔ tick % p.divisor = 0 := decide_eq_true_iff

theorem presenceTick_baseTick (s : State) : s.presenceTick.baseTick = (s.baseTick + 1) % 8 := by
  rw [(presenceTick_work s).1]

theorem count_eq {p : PresenceRecord} (h : p.running + 1 ≤ 255) : p.count = { p with running := p.running + 1 } := by
  rw [PresenceRecord.count, satInc, Config.countTop, Nat.min_eq_right h]

/-- An ACTIVE entry whose record is due, at the time its limit is looked at. -/
theorem presenceTick_due {s : State} {d : Drop} {p : PresenceRecord} (hstate : (s.entry d).state = .active)
    (hpresence : (s.entry d).presence = some p) (hdue : s.presenceTick.baseTick % p.divisor = 0) :
    ∃ v : State, v.entry d = { s.entry d with presence := some p.count } ∧
      SilenceWork (v.silenceIfDue d) s.presenceTick ∧ s.presenceTick.entry d = (v.silenceIfDue d).entry d := by
  obtain ⟨u, v, hu, huentry, -, hv, hafter, ht⟩ := presenceTick_at s d
  have htick : u.baseTick = s.presenceTick.baseTick := by rw [presenceTick_baseTick, hu.1]
  rw [countEntry_due (by rw [huentry]; exact hstate) (by rw [huentry]; exact hpresence)
    (due_iff.mpr (by rw [htick]; exact hdue)), State.setEntry_entry_same, huentry] at hv
  exact ⟨v, hv, hafter, ht⟩

/-- Settles O48. -/
theorem presenceTickCountsAndSilences : Obligations.PresenceTickCountsAndSilences := by
  refine ⟨fun s hrun hbelow => ⟨s.presenceTick, whileRunning_of _ hrun, ?number, fun d hstate => ?other,
      fun d p hstate hpresence hnotDue => ?notDue, fun d p hstate hpresence hdue htop => ⟨fun hmore => ?counted,
        fun hlimit => ?silenced⟩, ?frame⟩,
    fun s d hrun => ⟨fun p hstate hpresence hlimit => ?reached, fun p hpresence hbelow => ?below, fun hstate => ?state⟩⟩
  case number => rw [(presenceTick_work s).1]
  case frame => rw [(presenceTick_work s).1]
  case other =>
    obtain ⟨u, v, -, hu, -, hv, -, ht⟩ := presenceTick_at s d
    have hcounted : u.countEntry d = u := by
      rcases countEntry_cases u d with h | ⟨p, hactive, -⟩
      · exact h
      · exact absurd (hu ▸ hactive) hstate
    rw [ht, silenceIfDue_stays fun p hactive => ?_, hv, hcounted, hu]
    rw [hv, hcounted, hu] at hactive
    exact absurd hactive hstate
  case notDue =>
    obtain ⟨u, v, hu, huentry, -, hv, -, ht⟩ := presenceTick_at s d
    have hcounted : u.countEntry d = u := by
      rcases countEntry_cases u d with h | ⟨q, -, hq, hdue, -⟩
      · exact h
      · obtain rfl : p = q := Option.some.inj (hpresence.symm.trans (huentry ▸ hq))
        rw [presenceTick_baseTick] at hnotDue
        rw [hu.1] at hdue
        exact absurd (due_iff.mp hdue) hnotDue
    rw [hcounted, huentry] at hv
    rw [ht, silenceIfDue_stays fun q hactive hq => ?_, hv]
    rw [hv] at hactive hq
    exact hbelow d q hactive hq
  case counted =>
    obtain ⟨v, hv, -, ht⟩ := presenceTick_due hstate hpresence hdue
    rw [count_eq (by omega)] at hv
    rw [ht, silenceIfDue_stays fun q _ hq => ?_, hv]
    rw [hv] at hq
    obtain rfl := Option.some.inj hq
    exact hmore
  case silenced =>
    obtain ⟨v, hv, hafter, ht⟩ := presenceTick_due hstate hpresence hdue
    rw [count_eq (by omega)] at hv
    have hsilenced := silenceIfDue_reached (s := v) (d := d) (p := { p with running := p.running + 1 })
      (by rw [hv]; exact hstate) (by rw [hv]) (Nat.le_of_eq hlimit.symm)
    rw [hsilenced, hv] at hafter ht
    refine ⟨ht.trans (State.setEntry_entry_same ..), fun q => (and_eventBit_ne_zero _ _).mpr (hafter.2 q _ ?_)⟩
    rw [State.raise_port, raise_events_getLsbD, decide_eq_true rfl, Bool.or_true]
  case reached =>
    exact (whileRunning_of _ hrun).trans (congrArg Host.Outcome.next (silenceIfDue_reached hstate hpresence hlimit))
  case below =>
    refine (whileRunning_of _ hrun).trans (congrArg Host.Outcome.next (silenceIfDue_stays fun q _ hq => ?_))
    obtain rfl : p = q := Option.some.inj (hpresence.symm.trans hq)
    exact hbelow
  case state =>
    exact (whileRunning_of _ hrun).trans (congrArg Host.Outcome.next
      (silenceIfDue_stays fun _ hactive => absurd hactive hstate))

end Sys2Proof.Machine

/-! PROOFS. The minute tick: arrivals age and leave, leases fall, and claims without lease end (R103, R139). -/

namespace Sys2Proof.Machine

/-! Claims without lease -/

theorem leaseOut_eq_some_iff {s : State} {d : Drop} {f : FieldPort} :
    s.leaseOut d = some f ↔ ∃ c, s.claim d = some c ∧ c.lease = 0 ∧ c.holder = f := by
  unfold State.leaseOut
  cases s.claim d with
  | none => simp
  | some c => simp

theorem leaseOut_eq_none_iff {s : State} {d : Drop} : s.leaseOut d = none ↔ ∀ c, s.claim d = some c → c.lease ≠ 0 := by
  unfold State.leaseOut
  cases s.claim d with
  | none => simp
  | some c => simp

/-- The end of a drop's claim at a minute tick, where the leases have run out as another state says. -/
def State.endLease (leases : State) (t : State) (d : Drop) : State :=
  match leases.leaseOut d with
  | some f => t.loseClaim f d
  | none => t

theorem lapseAll_eq (s : State) :
    s.lapseAll = (allDrops.foldl s.endLease (s.detachWhere s.lapsing)).offerAll (s.gensWhere s.lapsing) := rfl

section
variable {w : State} {d : Drop} {f : FieldPort}

theorem endLease_out (t : State) (h : w.leaseOut d = some f) : w.endLease t d = t.loseClaim f d := by
  rw [State.endLease, h]

theorem endLease_running (t : State) (h : w.leaseOut d = none) : w.endLease t d = t := by
  rw [State.endLease, h]

theorem loseClaim_claim (t : State) (f : FieldPort) (d e : Drop) :
    (t.loseClaim f d).claim e = if d = e then none else t.claim e :=
  State.setClaim_claim t d e none

theorem loseClaim_lapsed (t : State) (f g : FieldPort) (d e : Drop) :
    (t.loseClaim f d).lapsed g e = (t.lapsed g e || decide (g = f ∧ e = d)) :=
  setLapse_lapsed (t.setClaim d none) f g d e

theorem loseClaim_events (t : State) (f : FieldPort) (d : Drop) (p : Port) (i : Nat) :
    ((t.loseClaim f d).port p).events.getLsbD i =
      ((t.port p).events.getLsbD i || decide (f.port = p ∧ i = Event.claimEnded.index)) := by
  have hport : (t.loseClaim f d).port p = if f.port = p then (t.port f.port).raise .claimEnded else t.port p :=
    State.setPort_port ((t.setClaim d none).setLapse f d) f.port p _
  rw [hport]
  split
  next h => rw [raise_events_getLsbD, h, decide_eq_decide.mpr (and_iff_right rfl)]
  next h => rw [decide_eq_false fun hno => h hno.1, Bool.or_false]

end

/-- What the claims that end at a minute tick change, drop by drop. -/
theorem foldl_endLease (w : State) (l : List Drop) (u : State) :
    let t := l.foldl w.endLease u
    t = { u with claims := t.claims, lapses := t.lapses, ports := t.ports } ∧
    (∀ d, t.claim d = if d ∈ l ∧ w.leaseOut d ≠ none then none else u.claim d) ∧
    (∀ f d, t.lapsed f d = (u.lapsed f d || decide (d ∈ l ∧ w.leaseOut d = some f))) ∧
    ∀ p i, (t.port p).events.getLsbD i = true ↔ (u.port p).events.getLsbD i = true ∨
      (i = Event.claimEnded.index ∧ ∃ d ∈ l, ∃ f, w.leaseOut d = some f ∧ f.port = p) := by
  induction l generalizing u with
  | nil => exact ⟨rfl, fun d => by simp, fun f d => by simp, fun p i => by simp⟩
  | cons e l ih =>
    obtain ⟨hframe, hclaim, hlapsed, hevents⟩ := ih (w.endLease u e)
    dsimp only [List.foldl_cons]
    cases hout : w.leaseOut e with
    | none =>
      rw [endLease_running u hout] at hframe hclaim hlapsed hevents ⊢
      refine ⟨hframe, fun d => ?_, fun f d => ?_, fun p i => ?_⟩
      · rw [hclaim d]
        refine if_congr ⟨fun h => ⟨List.mem_cons_of_mem _ h.1, h.2⟩, fun ⟨hmem, hd⟩ => ⟨?_, hd⟩⟩ rfl rfl
        exact (List.mem_cons.mp hmem).resolve_left fun h => hd (h ▸ hout)
      · rw [hlapsed f d, decide_eq_decide.mpr]
        refine ⟨fun h => ⟨List.mem_cons_of_mem _ h.1, h.2⟩, fun ⟨hmem, hd⟩ => ⟨?_, hd⟩⟩
        refine (List.mem_cons.mp hmem).resolve_left fun h => ?_
        rw [h, hout] at hd
        cases hd
      · rw [hevents p i]
        refine or_congr_right (and_congr_right fun _ => ⟨fun ⟨d, hmem, h⟩ => ⟨d, List.mem_cons_of_mem _ hmem, h⟩,
          fun ⟨d, hmem, f, hd, hp⟩ => ⟨d, (List.mem_cons.mp hmem).resolve_left fun h => ?_, f, hd, hp⟩⟩)
        rw [h, hout] at hd
        cases hd
    | some g =>
      rw [endLease_out u hout] at hframe hclaim hlapsed hevents ⊢
      refine ⟨?_, fun d => ?_, fun f d => ?_, fun p i => ?_⟩
      · rw [hframe]
        rfl
      · rw [hclaim d, loseClaim_claim]
        by_cases hde : e = d
        · subst hde
          simp [hout]
        · simp [hde, Ne.symm hde]
      · rw [hlapsed f d, loseClaim_lapsed, Bool.or_assoc]
        congr 1
        by_cases hde : d = e
        · subst hde
          by_cases hfg : f = g
          · simp [hout, hfg]
          · simp [hout, hfg, Ne.symm hfg]
        · simp [hde]
      · rw [hevents p i, loseClaim_events, Bool.or_eq_true, decide_eq_true_iff, or_assoc]
        simp only [List.mem_cons, exists_eq_or_imp, hout, Option.some.injEq, exists_eq_left']
        tauto

/-! Freed generators are offered whatever the claims and the arrivals -/

/-- The state with the records of another that the Trace Unit does not read. -/
def State.carrying (s w : State) : State :=
  { s with
    arrivals := w.arrivals, ageLimitRead := w.ageLimitRead, claims := w.claims, lapses := w.lapses, ports := w.ports }

theorem giveGenerator_carrying (s w : State) (b : Branch) (g : Gen) :
    (s.carrying w).giveGenerator b g = (s.giveGenerator b g).carrying w := by
  have hqueue : (s.carrying w).queue b = s.queue b := rfl
  rw [State.giveGenerator, State.giveGenerator, hqueue]
  cases s.queue b <;> rfl

theorem offer_carrying (s w : State) (g : Gen) : (s.carrying w).offer g = (s.offer g).carrying w := by
  have hturn : ((turnAfter (s.carrying w).lastServed).find? fun b => (s.carrying w).bindingWait b = some .eligible) =
      (turnAfter s.lastServed).find? fun b => s.bindingWait b = some .eligible := rfl
  rw [State.offer, State.offer, hturn]
  cases (turnAfter s.lastServed).find? fun b => s.bindingWait b = some .eligible with
  | none => rfl
  | some b => exact giveGenerator_carrying s w b g

theorem offerAll_carrying (gs : List Gen) (s w : State) : (s.carrying w).offerAll gs = (s.offerAll gs).carrying w := by
  induction gs generalizing s with
  | nil => rfl
  | cons g gs ih =>
    have hcons (u : State) : u.offerAll (g :: gs) = (u.offer g).offerAll gs := rfl
    rw [hcons, hcons, offer_carrying, ih]

/-! The tick itself -/

section
variable {s : State}

theorem tickLeases_claim (d : Drop) : s.tickArrivals.tickLeases.claim d = (s.claim d).map Claim.tick := by
  simp [State.tickLeases, State.claim, State.tickArrivals]

theorem leaseOut_after_tick {d : Drop} {f : FieldPort} : s.tickArrivals.tickLeases.leaseOut d = some f ↔
    ∃ c, s.claim d = some c ∧ c.lease ≤ 1 ∧ c.holder = f := by
  rw [leaseOut_eq_some_iff, tickLeases_claim]
  cases s.claim d with
  | none => simp
  | some c =>
    simp only [Option.map_some, Option.some.injEq, exists_eq_left', Claim.tick]
    exact and_congr_left' (by omega)

theorem lapsing_iff {w : State} {g : Generator} : w.lapsing g = true ↔
    ∃ d f, g.attached = some (d, .port f.port) ∧ w.leaseOut d = some f := by
  unfold State.lapsing
  cases g.attached with
  | none => simp
  | some a =>
    obtain ⟨d, o⟩ := a
    cases hout : w.leaseOut d with
    | none => simp [hout]
    | some f => simp [hout, eq_comm]

theorem detachWhere_carrying (s w : State) (p : Generator → Bool) :
    (s.carrying w).detachWhere p = (s.detachWhere p).carrying w := rfl

theorem tick_carrying (s : State) : s.tickArrivals.tickLeases = s.carrying s.tickArrivals.tickLeases := rfl

theorem gensWhere_carrying (s w : State) (p : Generator → Bool) : (s.carrying w).gensWhere p = s.gensWhere p := rfl

theorem carrying_queue (s w : State) (b : Branch) : (s.carrying w).queue b = s.queue b := rfl

theorem carrying_gen (s w : State) (g : Gen) : (s.carrying w).gen g = s.gen g := rfl

theorem carrying_lapses (s w : State) : (s.carrying w).lapses = w.lapses := rfl

/-- The claims that end by their parts: the generators of lapsing claims are freed and offered, and the other records
become what they become without them. -/
theorem lapseAll_carrying (s v : State) : (s.carrying v).lapseAll = (s.detachAndOffer (s.carrying v).lapsing).carrying
    (allDrops.foldl (s.carrying v).endLease ((s.detachWhere (s.carrying v).lapsing).carrying v)) := by
  have hframe := (foldl_endLease (s.carrying v) allDrops ((s.detachWhere (s.carrying v).lapsing).carrying v)).1
  rw [lapseAll_eq, detachWhere_carrying, gensWhere_carrying]
  generalize allDrops.foldl (s.carrying v).endLease ((s.detachWhere (s.carrying v).lapsing).carrying v) = ended at *
  have hbefore : ended = (s.detachWhere (s.carrying v).lapsing).carrying ended := by
    generalize s.detachWhere (s.carrying v).lapsing = u at *
    rw [hframe]
    rfl
  rw [hbefore, offerAll_carrying, State.detachAndOffer, ← hbefore]

theorem minuteTick_eq (s : State) :
    let v := s.tickArrivals.tickLeases
    s.minuteTick = (s.detachAndOffer v.lapsing).carrying
      (allDrops.foldl v.endLease ((s.detachWhere v.lapsing).carrying v)) := by
  have hparts := lapseAll_carrying s s.tickArrivals.tickLeases
  rw [← tick_carrying s] at hparts
  exact hparts

theorem tickArrivals_arrivalsOf (b : Branch) :
    s.tickArrivals.arrivalsOf b = (s.arrivalsOf b).tick s.settings.ageLimit := by
  simp [State.tickArrivals, State.arrivalsOf]

/-- What the minute tick does to arrivals, claims, lapse marks and event copies; the rest is the offer of the generators
that it frees. -/
theorem minuteTick_parts (s : State) :
    let v := s.tickArrivals.tickLeases
    let t := s.minuteTick
    t = (s.detachAndOffer v.lapsing).carrying t ∧ t.arrivals = s.tickArrivals.arrivals ∧
    t.ageLimitRead = some s.settings.ageLimit ∧
    (∀ d, t.claim d = if v.leaseOut d ≠ none then none else (s.claim d).map Claim.tick) ∧
    (∀ f d, t.lapsed f d = (s.lapsed f d || decide (v.leaseOut d = some f))) ∧
    ∀ d f, v.leaseOut d = some f → (t.port f.port).events &&& Event.claimEnded.bit ≠ 0 := by
  intro v t
  have hmem (d : Drop) : d ∈ allDrops := List.mem_finRange d
  have heq : t = _ := minuteTick_eq s
  have hclaims : ∀ d, v.claim d = (s.claim d).map Claim.tick := tickLeases_claim
  have hlapses : v.lapses = s.lapses := by simp only [v, State.tickLeases, State.tickArrivals]
  obtain ⟨hframe, hclaim, hlapsed, hevents⟩ := foldl_endLease v allDrops ((s.detachWhere v.lapsing).carrying v)
  generalize allDrops.foldl v.endLease ((s.detachWhere v.lapsing).carrying v) = ended at *
  generalize s.detachAndOffer v.lapsing = offered at *
  generalize s.detachWhere v.lapsing = detached at *
  have harrivals : ended.arrivals = s.tickArrivals.arrivals := by rw [hframe]; rfl
  have hlimit : ended.ageLimitRead = some s.settings.ageLimit := by rw [hframe]; rfl
  rw [heq]
  refine ⟨rfl, harrivals, hlimit, fun d => ?_, fun f d => ?_, fun d f hout => ?_⟩
  · refine (hclaim d).trans ?_
    rw [← hclaims d]
    exact if_congr (and_iff_right (hmem d)) rfl rfl
  · refine (hlapsed f d).trans ?_
    rw [decide_eq_decide.mpr (and_iff_right (hmem d)), State.lapsed, carrying_lapses, hlapses]
    rfl
  · exact (and_eventBit_ne_zero _ _).mpr ((hevents f.port _).mpr (.inr ⟨rfl, d, hmem d, f, hout, rfl⟩))

/-- The generators of lapsing claims, as R139 words them. -/
theorem lapsing_after_tick (g : Generator) {d : Drop} {o : Owner} (hattached : g.attached = some (d, o)) :
    s.tickArrivals.tickLeases.lapsing g = true ↔ ∃ p, o = .port p ∧ ∃ c, s.claim d = some c ∧ c.lease ≤ 1 ∧ c.holder.port = p := by
  rw [lapsing_iff, hattached]
  simp only [Option.some.injEq, Prod.mk.injEq, leaseOut_after_tick]
  constructor
  · rintro ⟨e, f, ⟨rfl, rfl⟩, c, hclaim, hlease, rfl⟩
    exact ⟨_, rfl, c, hclaim, hlease, rfl⟩
  · rintro ⟨p, rfl, c, hclaim, hlease, rfl⟩
    exact ⟨d, c.holder, ⟨rfl, rfl⟩, c, hclaim, hlease, rfl⟩

end

/-- When the generators that a test names have left, the offers give none of those of a port back (R114, R117). -/
theorem detachAndOffer_of_port (s : State) {p : Generator → Bool} {g : Gen} {d : Drop} {q : Port}
    (h : ((s.detachAndOffer p).gen g).attached = some (d, .port q)) :
    (s.gen g).attached = some (d, .port q) ∧ p (s.gen g) = false := by
  have hbetween := (traceWork_offerAll _ _).traced g d q h
  have hbefore := (traceWork_detachWhere s _).traced g d q hbetween
  refine ⟨hbefore, Bool.eq_false_iff.mpr fun hp => ?_⟩
  rw [detachWhere_gen, hbefore, hp] at hbetween
  cases hbetween

theorem exec_claimLapse_out {s : State} {d : Drop} {f : FieldPort} (hrun : s.startup = .running)
    (h : s.leaseOut d = some f) : exec (.claimLapse d) s = .next (s.revokeClaim f d) := by
  have hexec : exec (.claimLapse d) s = execClaimLapse d s := rfl
  rw [hexec, execClaimLapse, whileRunning_of _ hrun, h]

theorem exec_claimLapse_running {s : State} {d : Drop} (hrun : s.startup = .running) (h : s.leaseOut d = none) :
    exec (.claimLapse d) s = .next s := by
  have hexec : exec (.claimLapse d) s = execClaimLapse d s := rfl
  rw [hexec, execClaimLapse, whileRunning_of _ hrun, h]

theorem agedOut_iff {s : State} {a : Arrival} : s.agedOut a = true ↔ ∃ limit ∈ s.ageLimitRead, limit ≤ a.age := by
  unfold State.agedOut
  cases s.ageLimitRead <;> simp

/-- Settles O49. -/
theorem minuteTickAgesAndLapses : Obligations.MinuteTickAgesAndLapses := by
  refine ⟨fun s hrun => ?tick, fun s hrun => ⟨fun b n => ?ageOut, fun d c hclaim hlease => ?lapse, fun d hleft => ?running⟩⟩
  case tick =>
    intro lapsing
    have hlapsing : s.tickArrivals.tickLeases.lapsing = lapsing := by
      funext g
      rw [Bool.eq_iff_iff]
      dsimp only [lapsing]
      split
      next d p hattached =>
        rw [lapsing_after_tick g hattached]
        cases s.claim d with
        | none => simp
        | some c => simp [eq_comm (a := p), and_comm]
      next hno =>
        refine ⟨fun h => ?_, fun h => (by cases h)⟩
        obtain ⟨d, f, hattached, -⟩ := lapsing_iff.mp h
        exact absurd hattached (hno d f.port)
    obtain ⟨hoffered, harrivals, hlimit, hclaim, hlapsed, hevents⟩ := minuteTick_parts s
    rw [hlapsing] at hoffered
    have hout {d : Drop} {f : FieldPort} := leaseOut_after_tick (s := s) (d := d) (f := f)
    refine ⟨s.minuteTick, whileRunning_of _ hrun, fun b => ?_, fun d => ?_, fun d c hc hlease =>
      ⟨?_, hevents d c.holder (hout.mpr ⟨c, hc, hlease, rfl⟩), fun g hg => ?_⟩,
      fun f d hkept => ?_, fun b => ?_, ?_, ?_⟩
    · rw [State.arrivalsOf, harrivals]
      exact tickArrivals_arrivalsOf b
    · rw [hclaim d]
      cases hc : s.claim d with
      | none => simp
      | some c =>
        by_cases hlease : c.lease ≤ 1
        · rw [if_pos (by rw [hout.mpr ⟨c, hc, hlease, rfl⟩]; exact Option.some_ne_none _)]
          simp [hlease]
        · have hleft : s.tickArrivals.tickLeases.leaseOut d = none := by
            rw [Option.eq_none_iff_forall_ne_some]
            rintro f hf
            obtain ⟨c', hc', hlease', -⟩ := hout.mp hf
            obtain rfl := Option.some.inj (hc.symm.trans hc')
            exact hlease hlease'
          rw [if_neg (by rw [hleft]; simp)]
          simp [hlease, Claim.tick]
    · rw [hlapsed, hout.mpr ⟨c, hc, hlease, rfl⟩, decide_eq_true rfl, Bool.or_true]
    · rw [hoffered, carrying_gen] at hg
      obtain ⟨hbefore, hno⟩ := detachAndOffer_of_port s hg
      refine absurd ?_ (Bool.eq_false_iff.mp hno)
      dsimp only [lapsing]
      rw [hbefore]
      simp [hc, hlease]
    · rw [hlapsed, decide_eq_false, Bool.or_false]
      intro hf
      obtain ⟨c, hc, hlease, hholder⟩ := hout.mp hf
      exact hkept c hc hlease hholder
    · rw [hoffered, carrying_queue, (traceWork_detachAndOffer s lapsing).queue b]
    · rw [← hlimit]
      exact hoffered
    · rw [← hlimit]
      refine hoffered.trans ?_
      generalize s.minuteTick = t at *
      rw [hoffered, (traceWork_detachAndOffer s lapsing).frame]
      rfl
  case ageOut =>
    refine (whileRunning_of _ hrun).trans (congrArg Host.Outcome.next ?_)
    have hleave (a : Arrival) : (!(decide (a.serial = n) && s.agedOut a)) =
        decide ¬(a.serial = n ∧ ∃ limit ∈ s.ageLimitRead, limit ≤ a.age) := by
      rw [Bool.eq_iff_iff, Bool.not_eq_true', Bool.eq_false_iff, decide_eq_true_iff, ne_eq, Bool.and_eq_true,
        decide_eq_true_iff, agedOut_iff]
    rw [State.ageOut, List.filter_congr fun a _ => hleave a]
  case lapse =>
    refine ⟨s.revokeClaim c.holder d, exec_claimLapse_out hrun (leaseOut_eq_some_iff.mpr ⟨c, hclaim, hlease, rfl⟩), rfl,
      revokeClaim_claim_same s _ d, fun e he => revokeClaim_claim_ne s _ he, (revokeClaim_lapsed s _ d _ _).trans (by simp),
      ?_, revokeClaim_gen_attached s _ d, revokeClaim_frame s _ d⟩
    rw [revokeClaim_port, if_pos rfl]
    rfl
  case running => exact exec_claimLapse_running hrun (leaseOut_eq_none_iff.mpr hleft)

end Sys2Proof.Machine

/-! PROOFS. Match replies (R54 to R59) and range replies (R60 to R64). -/

namespace Sys2Proof.Machine

/-! The offers of freed generators touch no window, and give nothing to a branch whose head does not wait (R117) -/

/-- The branches differ at most in their counts of frame marks. -/
def MarksOnly (s t : State) : Prop := ∀ b, t.branch b = { s.branch b with frameMarks := (t.branch b).frameMarks }

theorem MarksOnly.trans {s t u : State} (hst : MarksOnly s t) (htu : MarksOnly t u) : MarksOnly s u := fun b => by
  rw [htu b, hst b]

theorem marksOnly_giveGenerator (s : State) (b : Branch) (g : Gen) : MarksOnly s (s.giveGenerator b g) := by
  unfold State.giveGenerator
  split
  next j js hqueue =>
    intro c
    change ((s.attach g j.drop (.binding b) (bindingCode b) 12).setBranch b
      { s.branch b with frameMarks := some 0 }).branch c = { s.branch c with frameMarks :=
        (((s.attach g j.drop (.binding b) (bindingCode b) 12).setBranch b
          { s.branch b with frameMarks := some 0 }).branch c).frameMarks }
    rw [State.setBranch_branch]
    split
    next hbc => rw [← hbc]
    next => rfl
  next => exact fun c => rfl

theorem marksOnly_offer (s : State) (g : Gen) : MarksOnly s (s.offer g) := by
  unfold State.offer
  split
  · exact marksOnly_giveGenerator s _ g
  · exact fun c => rfl

theorem marksOnly_offerAll (gs : List Gen) (s : State) : MarksOnly s (s.offerAll gs) := by
  induction gs generalizing s with
  | nil => exact fun c => rfl
  | cons g gs ih => exact (marksOnly_offer s g).trans (ih _)

theorem marksOnly_detachAndOffer (s : State) (p : Generator → Bool) : MarksOnly s (s.detachAndOffer p) :=
  marksOnly_offerAll _ (s.detachWhere p)

theorem bindingWait_eq_some {s : State} {b : Branch} {w : BindingWait} (h : s.bindingWait b = some w) :
    ∃ j js, s.queue b = j :: js ∧ j.stage = .waitTrace ∧ (s.branch b).frameMarks = none ∧
      w = if (s.genOn j.drop).isSome then .passedOver else .eligible := by
  unfold State.bindingWait at h
  split at h
  next j js hqueue =>
    split at h
    next hwaits => exact ⟨j, js, hqueue, hwaits.1, hwaits.2, (Option.some.inj h).symm⟩
    next => cases h
  next => cases h

theorem offer_cases (s : State) (g : Gen) :
    s.offer g = s ∨ ∃ b, s.bindingWait b = some .eligible ∧ s.offer g = s.giveGenerator b g := by
  unfold State.offer
  split
  next b hfound => exact .inr ⟨b, by simpa using List.find?_some hfound, rfl⟩
  next => exact .inl rfl

theorem offerAll_not_waiting {b : Branch} (gs : List Gen) {s : State}
    (hno : ∀ j ∈ (s.queue b).head?, j.stage ≠ .waitTrace) {g : Gen} {d : Drop}
    (h : ((s.offerAll gs).gen g).attached = some (d, .binding b)) : (s.gen g).attached = some (d, .binding b) := by
  induction gs generalizing s with
  | nil => exact h
  | cons g' gs ih =>
    have hbefore := ih (s := s.offer g') (by rw [(traceWork_offer s g').queue]; exact hno) h
    rcases offer_cases s g' with hsame | ⟨c, hwait, hgiven⟩
    · rwa [hsame] at hbefore
    · obtain ⟨j, js, hqueue, hstage, -, -⟩ := bindingWait_eq_some hwait
      rw [hgiven, giveGenerator_eq hqueue] at hbefore
      change ((s.setGen g' ⟨some (j.drop, .binding c), bindingCode c, 12, .cleared⟩).gen g).attached = _ at hbefore
      rw [State.setGen_gen] at hbefore
      split at hbefore
      · obtain rfl : c = b := Owner.binding.inj (Prod.ext_iff.mp (Option.some.inj hbefore)).2
        exact absurd hstage (hno j (by rw [hqueue]; rfl))
      · exact hbefore

/-- A branch whose head does not wait for a trace has no generator of its binding once that one has left. -/
theorem detachAndOffer_binding {s : State} {b : Branch} (hno : ∀ j ∈ (s.queue b).head?, j.stage ≠ .waitTrace) (g : Gen)
    (d : Drop) : ((s.detachAndOffer fun g => g.ownedBy (.binding b)).gen g).attached ≠ some (d, .binding b) := by
  intro h
  have hbefore := offerAll_not_waiting _ (s := s.detachWhere fun g => g.ownedBy (.binding b)) hno h
  rw [detachWhere_gen] at hbefore
  split at hbefore
  · cases hbefore
  next hkept =>
    rw [hbefore] at hkept
    simp [Generator.ownedBy, hbefore] at hkept

/-! The judgement of a match reply (R55) -/

theorem listedOn_iff {s : State} {b : Branch} {n : Serial} :
    s.listedOn b n = true ↔ ∃ a ∈ (s.arrivalsOf b).items, a.serial = n := by
  simp [State.listedOn]

section
variable {s : State} {b : Branch} {j : Job} {js : List Job} {r : Report}

theorem judgeMatch_eq (s : State) (b : Branch) (d : Drop) (r : Report) : s.judgeMatch b d r =
    if r.observation ≠ bindingCode b then .ignored
    else if ∃ o, o ≠ d ∧ (s.entry o).serial = some r.serial then .crossed
    else if ∀ a ∈ (s.arrivalsOf b).items, a.serial ≠ r.serial then .unheard
    else if r.tag ≠ 0 ∧ s.settings.providers &&& (1#8 <<< r.tag.toNat) = 0 then .providerOff
    else if r.tag ≠ 0 ∧ r.tag.toNat ≠ (s.entry d).provider then .providerMismatch
    else if s.levelOf d r.rawLevel < s.settings.acceptLow then .levelLow
    else if s.settings.acceptHigh < s.levelOf d r.rawLevel then .levelHigh
    else .success := by
  have hcrossed : (allDrops.any fun o => o ≠ d && (s.entry o).serial = some r.serial) = true ↔
      ∃ o, o ≠ d ∧ (s.entry o).serial = some r.serial := by
    simp [allDrops]
  have hunheard : (!s.listedOn b r.serial) = true ↔ ∀ a ∈ (s.arrivalsOf b).items, a.serial ≠ r.serial := by
    rw [Bool.not_eq_true', Bool.eq_false_iff, ne_eq, listedOn_iff]
    exact ⟨fun h a ha hn => h ⟨a, ha, hn⟩, fun h ⟨a, ha, hn⟩ => h a ha hn⟩
  have hoff : s.settings.tagOff r.tag = true ↔ r.tag ≠ 0 ∧ s.settings.providers &&& (1#8 <<< r.tag.toNat) = 0 := by
    rw [tagOff_eq, decide_eq_true_iff]
  rw [State.judgeMatch]
  refine if_congr Iff.rfl rfl (if_congr hcrossed rfl (if_congr hunheard rfl (if_congr hoff rfl rfl)))

theorem takeMatchReply_undecided (hnone : (s.branch b).decided = none) (hqueue : s.queue b = j :: js)
    (hstage : j.stage = .matching) : s.takeMatchReply b r = s.judgeReply b j r := by
  simp only [State.takeMatchReply, hnone, hqueue, if_pos hstage]

theorem takeMatchReply_decided {n : Serial} {dec : Decision} (h : (s.branch b).decided = some (n, dec)) :
    s.takeMatchReply b r = if r.serial = n then s else s.reportFault b .doubleReply := by
  simp only [State.takeMatchReply, h]

theorem enter_ranging {e : Entry} (h : e.state ≠ .ranging) :
    e.enter .ranging = { e with state := .ranging, rejoinPending := false } := if_neg h

/-- A refused reply blocks the entry with its reason and the reply's serial (R56). -/
theorem refuseMatch_eq (hstate : (s.entry j.drop).state = .binding) (why : LastResult) (judged : Bool) :
    s.refuseMatch j r why judged = s.endJob j { (s.entry j.drop).unbound .blocked with
      lastSerial := some r.serial, lastResult := why
      lastLevel := if judged then some (s.levelOf j.drop r.rawLevel) else (s.entry j.drop).lastLevel } (some .jobFailed) := by
  rw [State.refuseMatch, enter_blocked (by rw [hstate]; decide)]
  rfl

/-- A good reply up to the release of its generator: the decision, the entry, the arrivals and the job (R59). -/
def State.matched (b : Branch) (j : Job) (js : List Job) (r : Report) (s : State) : State :=
  ((s.setBranch b { s.branch b with
    decided := some (r.serial, .succeeded), queue := { j with stage := .range, attempts := 0 } :: js }).setEntry
      j.drop { s.entry j.drop with
        state := .ranging, serial := some r.serial, lastLevel := some (s.levelOf j.drop r.rawLevel)
        rejoinPending := false }).unlist r.serial

theorem succeedMatch_eq (hqueue : s.queue b = j :: js) (hstate : (s.entry j.drop).state = .binding) :
    s.succeedMatch b j r = (s.matched b j js r).detachAndOffer fun g => g.ownedBy (.binding b) := by
  have hcommute (u : State) (c : BranchCtl) : (u.unlist r.serial).setBranch b c = (u.setBranch b c).unlist r.serial := rfl
  have hcommute' (u : State) (d : Drop) (e : Entry) (c : BranchCtl) :
      (u.setEntry d e).setBranch b c = (u.setBranch b c).setEntry d e := rfl
  have hqueue' (d : Drop) (e : Entry) : (((s.noteDecision b r.serial .succeeded).setEntry d e).unlist r.serial).queue b =
      j :: js := (congrArg BranchCtl.queue (State.setBranch_branch_same ..)).trans hqueue
  have hbranch (d : Drop) (e : Entry) : (((s.noteDecision b r.serial .succeeded).setEntry d e).unlist r.serial).branch b =
      { s.branch b with decided := some (r.serial, .succeeded) } := State.setBranch_branch_same ..
  rw [State.succeedMatch, enter_ranging (by rw [hstate]; decide)]
  dsimp only
  rw [setHead_eq (hqueue' _ _), State.setQueue, hbranch, hcommute, hcommute', State.noteDecision, setBranch_setBranch]
  rfl

theorem matched_branch (b : Branch) (j : Job) (js : List Job) (r : Report) (s : State) :
    (s.matched b j js r).branch b = { s.branch b with
      decided := some (r.serial, .succeeded), queue := { j with stage := .range, attempts := 0 } :: js } :=
  State.setBranch_branch_same ..

theorem matched_arrivalsOf (b c : Branch) (j : Job) (js : List Job) (r : Report) (s : State) :
    (s.matched b j js r).arrivalsOf c = { s.arrivalsOf c with
      items := (s.arrivalsOf c).items.filter fun a => a.serial ≠ r.serial } := unlist_arrivalsOf c

end

/-- Settles O42: the tests in their order, and then what each verdict does. -/
theorem matchRepliesAreJudgedInOrder : Obligations.MatchRepliesAreJudgedInOrder := by
  refine ⟨judgeMatch_eq, fun s b j js r hqueue hstage hstate hnone => ⟨fun v why hv hjudged => ?refused,
      fun v why hv hjudged => ?levels, fun hjudged => ?unheard, fun hjudged => ?ignored, fun hjudged => ?success⟩,
    fun s b r n dec hdecided => ⟨fun hsame => ?again, fun hother => ?double⟩⟩
  case again => rw [takeMatchReply_decided hdecided, if_pos hsame]
  case double => rw [takeMatchReply_decided hdecided, if_neg hother]
  all_goals have htaken := takeMatchReply_undecided (r := r) hnone hqueue hstage
  case refused =>
    have hrefused : s.judgeReply b j r = s.refuseMatch j r why false := by
      simp only [List.mem_cons, List.not_mem_nil, or_false, Prod.mk.injEq] at hv
      rcases hv with ⟨rfl, rfl⟩ | ⟨rfl, rfl⟩ | ⟨rfl, rfl⟩ <;> simp only [State.judgeReply, hjudged]
    rw [htaken, hrefused, refuseMatch_eq hstate]
    rfl
  case levels =>
    have hrefused : s.judgeReply b j r = s.refuseMatch j r why true := by
      simp only [List.mem_cons, List.not_mem_nil, or_false, Prod.mk.injEq] at hv
      rcases hv with ⟨rfl, rfl⟩ | ⟨rfl, rfl⟩ <;> simp only [State.judgeReply, hjudged]
    rw [htaken, hrefused, refuseMatch_eq hstate]
    rfl
  case unheard =>
    rw [htaken]
    simp only [State.judgeReply, hjudged]
    rfl
  case ignored =>
    rw [htaken]
    simp only [State.judgeReply, hjudged]
  case success =>
    have heq : s.takeMatchReply b r = (s.matched b j js r).detachAndOffer fun g => g.ownedBy (.binding b) := by
      rw [htaken, ← succeedMatch_eq hqueue hstate]
      simp only [State.judgeReply, hjudged]
    have hmarks := marksOnly_detachAndOffer (s.matched b j js r) (fun g => g.ownedBy (.binding b)) b
    rw [matched_branch] at hmarks
    refine ⟨s.matched b j js r, rfl, fun c => matched_arrivalsOf b c j js r s, heq, ?_, ?_⟩
    · rw [heq, hmarks]
    · rw [heq, hmarks]

/-- Settles O41. -/
theorem goodMatchReplyBindsTerminal : Obligations.GoodMatchReplyBindsTerminal := by
  intro s b j js n raw hlistening hn hraw hwindow hnone hqueue hstage hstate honly hlisted hlow hhigh
  have hreceived : s.receive b (cleanBurst 2 0 n (payloadOf raw (bindingCode b))) =
      s.takeMatchReply b ⟨n, 0, raw, bindingCode b⟩ := by
    rw [receive_cleanBurst (k := .matchReply) hlistening rfl hn rfl, takeKnown_accepted (k := .matchReply) (decide_eq_true hwindow)
      (fun h => nomatch h), noteProvider_zero, payloadObservation_payloadOf, payloadLevel_payloadOf _ hraw]
    rfl
  have hjudged : s.judgeMatch b j.drop ⟨n, 0, raw, bindingCode b⟩ = .success := by
    obtain ⟨a, ha, hserial⟩ := hlisted
    rw [judgeMatch_eq, if_neg (fun h => h rfl), if_neg (fun ⟨o, hne, ho⟩ => honly o hne ho),
      if_neg (fun h => h a ha hserial), if_neg (fun h => h.1 rfl), if_neg (fun h => h.1 rfl), if_neg (Nat.not_lt.mpr hlow),
      if_neg (Nat.not_lt.mpr hhigh)]
  have heq : s.takeMatchReply b ⟨n, 0, raw, bindingCode b⟩ =
      (s.matched b j js ⟨n, 0, raw, bindingCode b⟩).detachAndOffer fun g => g.ownedBy (.binding b) := by
    rw [takeMatchReply_undecided hnone hqueue hstage, ← succeedMatch_eq hqueue hstate]
    simp only [State.judgeReply, hjudged]
  have hwork := traceWork_detachAndOffer (s.matched b j js ⟨n, 0, raw, bindingCode b⟩) fun g => g.ownedBy (.binding b)
  have hmarks := marksOnly_detachAndOffer (s.matched b j js ⟨n, 0, raw, bindingCode b⟩) (fun g => g.ownedBy (.binding b)) b
  have hbranch := matched_branch b j js ⟨n, 0, raw, bindingCode b⟩ s
  have hgens := detachAndOffer_binding (s := s.matched b j js ⟨n, 0, raw, bindingCode b⟩) (b := b) (by
    rw [State.queue, hbranch]
    simp)
  have harrivals (c : Branch) := matched_arrivalsOf b c j js ⟨n, 0, raw, bindingCode b⟩ s
  rw [← heq] at hwork hmarks hgens
  rw [hbranch] at hmarks
  refine ⟨_, congrArg Host.Outcome.next hreceived, ?_, fun d hd => ?_, congrArg BranchCtl.queue hmarks,
    (congrArg BranchCtl.window hmarks).trans hwindow, congrArg BranchCtl.decided hmarks, fun c => ?_, hgens, ?_⟩
  · rw [hwork.frame]
    exact State.setEntry_entry_same ..
  · rw [hwork.frame]
    exact State.setEntry_entry_ne _ _ _ _ hd.symm
  · rw [hwork.frame]
    exact harrivals c
  · rw [hwork.frame]
    rfl

/-! Range replies (R61, R62) -/

section
variable {s : State} {b : Branch} {n : Serial}

/-- A clean RANGE_REPLY in its window: one that the receiver takes goes to the Branch Controller with the reading of its
begin, and one that it does not take is followed to its end. -/
theorem receive_rangeReply (hopen : s.OpenLane b) (hn : n ≠ 0) (hwindow : (s.branch b).window = .rangeListen) :
    let r := (s.lane b).rx.getD ⟨s.settings.tolerance, .begun, (s.branch b).rangeCounter, true⟩
    let u := s.setLane b { s.lane b with rx := none }
    s.receive b (cleanBurst 3 0 n []) = if r.taken then u.takeRangeReply b n r.counter else u := by
  intro r u
  have hrx : s.receptionOf b (cleanBurst 3 0 n []) = r := receptionOf_ended rfl
  split
  next htaken =>
    have hintact := inspect_cleanBurst (tol := r.tolerance) (kind := 3) (tag := 0) (n := n) (payload := [])
      (k := .rangeReply) rfl hn rfl
    have hreceived := receive_intact (x := cleanBurst 3 0 n []) hopen rfl rfl rfl htaken (congrArg Inspection.intact hintact)
    rw [hintact] at hreceived
    change _ = u.takeIntact b _ [] r.counter at hreceived
    rw [hreceived, takeIntact_known (by rw [kind_headerSymbols]; rfl), takeKnown_accepted (s := u) (k := .rangeReply)
      (decide_eq_true hwindow) (fun h => nomatch h), tag_headerSymbols, noteProvider_zero, serial_headerSymbols]
    rfl
  next hlost =>
    rw [receive_lost (.inr (.inr (.inr (by rw [hrx]; exact Bool.eq_false_iff.mpr hlost)))), ignoreBurst_ended rfl]
    rfl

variable {j : Job} {js : List Job}

theorem takeRangeReply_judged {c : RangeCounter} (hqueue : s.queue b = j :: js) (hstage : j.stage = .range)
    (hserial : (s.entry j.drop).serial = some n) : s.takeRangeReply b n (some c) =
      if c.overflow = true ∨ s.settings.span < c.count then s.rangeFar j else s.rangeDone b j c.count := by
  simp only [State.takeRangeReply, hqueue, if_pos (And.intro hstage hserial)]

theorem takeRangeReply_ignored {c : Option RangeCounter}
    (h : c = none ∨ ∃ j js, s.queue b = j :: js ∧ (s.entry j.drop).serial ≠ some n) : s.takeRangeReply b n c = s := by
  unfold State.takeRangeReply
  split
  next j js c hqueue =>
    refine if_neg fun ⟨_, hserial⟩ => ?_
    rcases h with h | ⟨k, ks, hk, hother⟩
    · cases h
    · obtain ⟨rfl, rfl⟩ := List.cons.inj (hqueue.symm.trans hk)
      exact hother hserial
  next => rfl

theorem rangeDone_eq (hqueue : s.queue b = j :: js) (hserial : (s.entry j.drop).serial = some n) (trip : Nat) :
    s.rangeDone b j trip = (((s.setBranch b { s.branch b with
      window := .none, listenMs := none, decided := none, rangeCounter := none, admitWait := some 3000
      queue := { j with stage := .admitting } :: js }).setEntry j.drop { s.entry j.drop with
        roundTrip := some trip, delay := some (s.settings.span - trip) }).sendCall b
          (.admitCall n (s.settings.span - trip) (s.entry j.drop).provider)).grant b := by
  have hcommute (u : State) (d : Drop) (e : Entry) (c : BranchCtl) :
      (u.setEntry d e).setBranch b c = (u.setBranch b c).setEntry d e := rfl
  have hqueue' (d : Drop) (e : Entry) :
      ((s.setBranch b { (s.branch b).endListening with admitWait := some 3000 }).setEntry d e).queue b = j :: js :=
    (congrArg BranchCtl.queue (State.setBranch_branch_same ..)).trans hqueue
  rw [State.rangeDone]
  dsimp only
  rw [setHead_eq (hqueue' _ _), State.setQueue, State.setEntry_branch, State.setBranch_branch_same, hcommute,
    setBranch_setBranch, hserial]
  rfl

end

/-- Settles O43. -/
theorem rangeReplyAdmitsOrBlocks : Obligations.RangeReplyAdmitsOrBlocks := by
  refine ⟨fun s b j js n c hopen hn hwindow hqueue hstage hserial hread => ⟨fun hmark hspan => ?admits,
      fun hstate hfar => ?far⟩,
    fun s b n hopen hn hwindow hignored => ?ignored, fun s b x c hopen htime hbegun hcounter => ?reading⟩
  case ignored =>
    refine congrArg Host.Outcome.next ((receive_rangeReply hopen hn hwindow).trans ?_)
    split
    next htaken =>
      refine takeRangeReply_ignored ?_
      rcases hignored with ⟨r, hr, hnone⟩ | hother
      · rw [hr]
        exact .inl hnone
      · exact .inr hother
    next => rfl
  case reading =>
    have hexec : exec (.rangeReply b x) s = .next (s.setReception b
        (some ⟨s.settings.tolerance, .begun, (s.branch b).rangeCounter, true⟩)) :=
      congrArg Host.Outcome.next (receive_begun hopen htime hbegun)
    have hrx (r : Reception) : (((s.setReception b (some r)).lane b).rx.bind Reception.counter) = r.counter := by
      rw [setReception_rx]
      rfl
    refine ⟨_, hexec, (hrx _).trans hcounter, fun u hu => ?_⟩
    have hover := whileRunning_of (fun t => t.rangeOverflow b) (s := s.setReception b
        (some ⟨s.settings.tolerance, .begun, (s.branch b).rangeCounter, true⟩)) hopen.1
    rw [← Host.Outcome.next.inj (hover.symm.trans hu)]
    exact (hrx _).trans hcounter
  all_goals
    have hreceived : s.receive b (cleanBurst 3 0 n []) =
        (s.setLane b { s.lane b with rx := none }).takeRangeReply b n (some c) := by
      rw [receive_rangeReply hopen hn hwindow]
      rcases hread with ⟨hfree, hcounter⟩ | ⟨r, hr, htaken, hcounter⟩
      · rw [hfree, Option.getD_none, ← hcounter]
        rfl
      · rw [hr, Option.getD_some, if_pos htaken, ← hcounter]
    rw [takeRangeReply_judged (s := s.setLane b { s.lane b with rx := none }) hqueue hstage hserial,
      State.setLane_settings] at hreceived
  case admits =>
    have hno : ¬(c.overflow = true ∨ s.settings.span < c.count) := by
      rintro (h | h)
      · rw [hmark] at h
        cases h
      · omega
    rw [if_neg hno, rangeDone_eq (s := s.setLane b { s.lane b with rx := none }) hqueue hserial] at hreceived
    exact congrArg Host.Outcome.next hreceived
  case far =>
    rw [if_pos hfar] at hreceived
    refine congrArg Host.Outcome.next (hreceived.trans ?_)
    rw [State.rangeFar, State.setLane_entry, enter_blocked (by rw [hstate]; decide)]
    rfl

end Sys2Proof.Machine

/-! PROOFS. The laws of one queue and of one drop, of which the laws of the jobs are made (R11, R12, R26), what an entry
keeps of its serial and presence record (R4, R10), and what a change may leave of the generators' laws (R107, R116). -/

namespace Sys2Proof.Machine

/-! One queue, one drop -/

/-- The laws of R26 for one branch's queue. -/
structure QueueLaw (b : Branch) (q : List Job) : Prop where
  short : q.length ≤ 6
  nodup : (q.map Job.drop).Nodup
  own : ∀ j ∈ q, j.drop.branch = b
  waiting : ∀ j ∈ q.tail, j.stage = .waiting

/-- The pairing of R11 and the pending flag of R12 for one drop. -/
structure DropLaw (e : Entry) (j : Option Job) : Prop where
  paired : paired e.state j = true
  pending : e.rejoinPending = true → e.state = .bound ∧ j = none

/-- The laws of the jobs that hold while a job ends too, before its place is refilled. -/
structure JobCore (s : State) : Prop where
  queues : ∀ b, QueueLaw b (s.queue b)
  drops : ∀ d, DropLaw (s.entry d) (s.jobOf d)

/-- With intake open, a pending flag stands only beside a full queue (R34, note). -/
def FullLaw (s : State) : Prop :=
  s.intakeOpen = true → ∀ d : Drop, (s.entry d).rejoinPending = true → (s.queue d.branch).length = 6

theorem queueLaws_iff {s : State} : s.QueueLaws ↔ ∀ b, QueueLaw b (s.queue b) :=
  forall_congr' fun _ => ⟨fun ⟨h1, h2, h3, h4⟩ => ⟨h1, h2, h3, h4⟩, fun ⟨h1, h2, h3, h4⟩ => ⟨h1, h2, h3, h4⟩⟩

/-- The laws of the jobs are those of the queues and drops, the full queues and the intake. -/
theorem jobInv_iff {s : State} : s.JobInv ↔ JobCore s ∧ FullLaw s ∧ s.IntakeLaw := by
  constructor
  · rintro ⟨hqueues, hpaired, hpending, hintake⟩
    refine ⟨⟨queueLaws_iff.mp hqueues, fun d => ⟨hpaired d, fun h => ?_⟩⟩, fun hopen d h => ?_, hintake⟩
    · obtain ⟨h1, h2, -⟩ := hpending d h
      exact ⟨h1, h2⟩
    · obtain ⟨-, -, h3⟩ := hpending d h
      exact h3 hopen
  · rintro ⟨⟨hqueues, hdrops⟩, hfull, hintake⟩
    refine ⟨queueLaws_iff.mpr hqueues, fun d => (hdrops d).paired, fun d h => ?_, hintake⟩
    obtain ⟨h1, h2⟩ := (hdrops d).pending h
    exact ⟨h1, h2, fun hopen => hfull hopen d h⟩

theorem mem_of_jobOf {s : State} {d : Drop} {j : Job} (h : s.jobOf d = some j) : j ∈ s.queue d.branch ∧ j.drop = d :=
  ⟨List.mem_of_find?_eq_some h, by simpa using List.find?_some h⟩

theorem find_drop_of_mem {q : List Job} (hnodup : (q.map Job.drop).Nodup) {j : Job} (hmem : j ∈ q) :
    q.find? (fun k => k.drop = j.drop) = some j := by
  induction q with
  | nil => cases hmem
  | cons k ks ih =>
    rw [List.map_cons, List.nodup_cons] at hnodup
    obtain ⟨hfresh, hrest⟩ := hnodup
    rcases List.mem_cons.mp hmem with rfl | hmem
    · simp
    · have hne : k.drop ≠ j.drop := fun h => hfresh (h ▸ List.mem_map_of_mem hmem)
      simp [hne, ih hrest hmem]

/-- In a lawful queue the job of a drop is the one that names it. -/
theorem jobOf_of_mem {s : State} (hcore : JobCore s) {j : Job} (hmem : j ∈ s.queue j.drop.branch) :
    s.jobOf j.drop = some j := find_drop_of_mem (hcore.queues _).nodup hmem

theorem jobOf_head {s : State} (hcore : JobCore s) {b : Branch} {j : Job} {js : List Job} (hqueue : s.queue b = j :: js) :
    j.drop.branch = b ∧ s.jobOf j.drop = some j := by
  have hbranch : j.drop.branch = b := (hcore.queues b).own j (by simp [hqueue])
  exact ⟨hbranch, jobOf_of_mem hcore (by simp [hbranch, hqueue])⟩

/-- A change at one drop: every other queue stands, and every other drop keeps its entry and its job. -/
theorem jobCore_at {s t : State} (hcore : JobCore s) (d : Drop)
    (hothers : ∀ b, b ≠ d.branch → t.queue b = s.queue b) (hqueue : QueueLaw d.branch (t.queue d.branch))
    (hentry : ∀ e, e ≠ d → t.entry e = s.entry e)
    (hjobs : ∀ e, e ≠ d → e.branch = d.branch → t.jobOf e = s.jobOf e)
    (hdrop : DropLaw (t.entry d) (t.jobOf d)) : JobCore t where
  queues b := by
    by_cases hb : b = d.branch
    · rw [hb]
      exact hqueue
    · rw [hothers b hb]
      exact hcore.queues b
  drops e := by
    by_cases he : e = d
    · rw [he]
      exact hdrop
    · have hjob : t.jobOf e = s.jobOf e := by
        by_cases hb : e.branch = d.branch
        · exact hjobs e he hb
        · rw [State.jobOf, hothers _ hb]
          rfl
      rw [hentry e he, hjob]
      exact hcore.drops e

/-- The head job changes and keeps its drop. -/
theorem queueLaw_head {b : Branch} {j k : Job} {js : List Job} (h : QueueLaw b (j :: js)) (hdrop : k.drop = j.drop) :
    QueueLaw b (k :: js) where
  short := h.short
  nodup := by
    have := h.nodup
    rwa [List.map_cons, ← hdrop, ← List.map_cons] at this
  own x hx := by
    rcases List.mem_cons.mp hx with rfl | hx
    · rw [hdrop]
      exact h.own j (by simp)
    · exact h.own x (by simp [hx])
  waiting := h.waiting

theorem find_head_ne {j : Job} {js : List Job} {e : Drop} (hne : e ≠ j.drop) :
    (j :: js).find? (fun k => k.drop = e) = js.find? fun k => k.drop = e := by
  simp [hne.symm]

/-- The head of a queue and its entry move on together. -/
theorem jobCore_head {s t : State} (hcore : JobCore s) {b : Branch} {j k : Job} {js : List Job}
    (hqueue : s.queue b = j :: js) (hdrop : k.drop = j.drop) (hnew : t.queue b = k :: js)
    (hothers : ∀ c, c ≠ b → t.queue c = s.queue c) (hentry : ∀ e, e ≠ j.drop → t.entry e = s.entry e)
    (hpair : DropLaw (t.entry j.drop) (some k)) : JobCore t := by
  obtain ⟨hbranch, -⟩ := jobOf_head hcore hqueue
  refine jobCore_at hcore j.drop (by rwa [hbranch]) ?_ hentry (fun e he hb => ?_) ?_
  · rw [hbranch, hnew]
    exact queueLaw_head (hqueue ▸ hcore.queues b) hdrop
  · rw [State.jobOf, State.jobOf, hb, hbranch, hnew, hqueue, find_head_ne he, find_head_ne (hdrop ▸ he)]
  · rw [State.jobOf, hbranch, hnew]
    simpa [hdrop] using hpair

/-- A job joins at the tail in WAITING. -/
theorem queueLaw_append {b : Branch} {q : List Job} (h : QueueLaw b q) {j : Job} (hroom : q.length < 6)
    (hfree : q.find? (fun k => k.drop = j.drop) = none) (hbranch : j.drop.branch = b) (hwaiting : j.stage = .waiting) :
    QueueLaw b (q ++ [j]) where
  short := by
    rw [List.length_append, List.length_singleton]
    omega
  nodup := by
    rw [List.map_append, List.map_singleton, List.nodup_append]
    refine ⟨h.nodup, List.nodup_singleton _, fun x hx y hy => ?_⟩
    obtain ⟨k, hk, rfl⟩ := List.mem_map.mp hx
    rw [List.mem_singleton.mp hy]
    simpa using List.find?_eq_none.mp hfree k hk
  own k hk := by
    rcases List.mem_append.mp hk with hk | hk
    · exact h.own k hk
    · rw [List.mem_singleton.mp hk, hbranch]
  waiting k hk := by
    cases q with
    | nil => simp at hk
    | cons x xs =>
      rcases List.mem_append.mp hk with hk | hk
      · exact h.waiting k hk
      · rw [List.mem_singleton.mp hk, hwaiting]

theorem queueLaw_filter {b : Branch} {q : List Job} (h : QueueLaw b q) (p : Job → Bool) : QueueLaw b (q.filter p) where
  short := (List.length_filter_le p q).trans h.short
  nodup := h.nodup.sublist (List.filter_sublist.map _)
  own j hj := h.own j (List.mem_of_mem_filter hj)
  waiting j hj := by
    cases q with
    | nil => cases hj
    | cons k ks =>
      rw [List.filter_cons] at hj
      split at hj
      · exact h.waiting j (List.mem_of_mem_filter hj)
      · exact h.waiting j (List.mem_of_mem_filter (List.mem_of_mem_tail hj))

/-- The one job of a drop leaves: its place is free. -/
theorem length_filter_drop {b : Branch} {q : List Job} (h : QueueLaw b q) {j : Job} (hmem : j ∈ q) :
    (q.filter fun k => k.drop ≠ j.drop).length + 1 = q.length := by
  have hnodup := h.nodup
  clear h
  induction q with
  | nil => cases hmem
  | cons k ks ih =>
    rw [List.map_cons, List.nodup_cons] at hnodup
    obtain ⟨hfresh, hrest⟩ := hnodup
    rcases List.mem_cons.mp hmem with rfl | hmem
    · have hkeep : ks.filter (fun k => k.drop ≠ j.drop) = ks :=
        List.filter_eq_self.mpr fun x hx => by
          have : x.drop ≠ j.drop := fun he => hfresh (he ▸ List.mem_map_of_mem hx)
          simpa using this
      rw [List.filter_cons_of_neg (by simp), hkeep, List.length_cons]
    · have hne : k.drop ≠ j.drop := fun he => hfresh (he ▸ List.mem_map_of_mem hmem)
      rw [List.filter_cons_of_pos (by simpa using hne), List.length_cons, List.length_cons, ih hmem hrest]

theorem find_filter_ne {q : List Job} {d e : Drop} (hne : e ≠ d) :
    (q.filter fun k => k.drop ≠ d).find? (fun k => k.drop = e) = q.find? fun k => k.drop = e := by
  rw [List.find?_filter]
  congr 1
  funext k
  by_cases h : k.drop = e <;> simp [h, hne]

theorem find_filter_same (q : List Job) (d : Drop) :
    (q.filter fun k => k.drop ≠ d).find? (fun k => k.drop = d) = none :=
  List.find?_eq_none.mpr fun k hk => by simpa using (List.mem_filter.mp hk).2

/-! What an entry keeps -/

/-- The second entry keeps the laws of R4 and R10 that the first meets, and takes no new serial. -/
structure EntryKeeps (e f : Entry) : Prop where
  presence : presenceFits e.state e.presence = true → presenceFits f.state f.presence = true
  bears : e.serial.isSome = e.state.bearsSerial → f.serial.isSome = f.state.bearsSerial
  serial : f.serial = e.serial ∨ f.serial = none

theorem EntryKeeps.refl (e : Entry) : EntryKeeps e e := ⟨id, id, .inl rfl⟩

theorem EntryKeeps.trans {e f g : Entry} (hef : EntryKeeps e f) (hfg : EntryKeeps f g) : EntryKeeps e g where
  presence h := hfg.presence (hef.presence h)
  bears h := hfg.bears (hef.bears h)
  serial := by
    rcases hfg.serial with h | h
    · rw [h]
      exact hef.serial
    · exact .inr h

/-- What the laws read of an entry. -/
structure EntryAlike (e f : Entry) : Prop where
  state : f.state = e.state
  serial : f.serial = e.serial
  pending : f.rejoinPending = e.rejoinPending
  frozen : f.presence.map PresenceRecord.frozen = e.presence.map PresenceRecord.frozen

theorem EntryAlike.refl (e : Entry) : EntryAlike e e := ⟨rfl, rfl, rfl, rfl⟩

theorem EntryAlike.trans {e f g : Entry} (hef : EntryAlike e f) (hfg : EntryAlike f g) : EntryAlike e g :=
  ⟨hfg.state.trans hef.state, hfg.serial.trans hef.serial, hfg.pending.trans hef.pending, hfg.frozen.trans hef.frozen⟩

theorem presenceFits_frozen (st : EntryState) (p q : Option PresenceRecord)
    (h : q.map PresenceRecord.frozen = p.map PresenceRecord.frozen) : presenceFits st q = presenceFits st p := by
  cases p with
  | none =>
    cases q with
    | none => rfl
    | some y => cases h
  | some x =>
    cases q with
    | none => cases h
    | some y =>
      have hxy : y.frozen = x.frozen := Option.some.inj h
      simp [presenceFits, hxy]

theorem EntryAlike.keeps {e f : Entry} (h : EntryAlike e f) : EntryKeeps e f where
  presence := by rw [h.state, presenceFits_frozen _ _ _ h.frozen]; exact id
  bears := by rw [h.state, h.serial]; exact id
  serial := .inl h.serial

theorem EntryAlike.dropLaw {e f : Entry} {j : Option Job} (h : EntryAlike e f) (hlaw : DropLaw e j) : DropLaw f j where
  paired := by rw [h.state]; exact hlaw.paired
  pending := by rw [h.state, h.pending]; exact hlaw.pending

theorem alike_result (e : Entry) (r : LastResult) : EntryAlike e (e.result r) := ⟨rfl, rfl, rfl, rfl⟩

theorem enter_state (e : Entry) (st : EntryState) : (e.enter st).state = st := by
  unfold Entry.enter
  split
  next h => exact h
  next => cases st <;> rfl

/-- Entry into PLANNED and BLOCKED lets the serial and the presence record go (Table 1-4). -/
theorem keeps_unbound (e : Entry) {st : EntryState} (h : st = .planned ∨ st = .blocked) :
    EntryKeeps e (e.unbound st) := by
  rcases h with rfl | rfl <;> exact ⟨fun _ => rfl, fun _ => rfl, .inr rfl⟩

theorem enter_unbound {e : Entry} {st : EntryState} (hst : st = .planned ∨ st = .blocked) (hne : e.state ≠ st) :
    e.enter st = e.unbound st := by
  rcases hst with rfl | rfl
  · exact enter_planned hne
  · exact enter_blocked hne

theorem keeps_enter_unbound (e : Entry) {st : EntryState} (hst : st = .planned ∨ st = .blocked) :
    EntryKeeps e (e.enter st) := by
  by_cases hne : e.state = st
  · rw [enter_same hne]
    exact .refl e
  · rw [enter_unbound hst hne]
    exact keeps_unbound e hst

theorem keeps_enter_vacant (e : Entry) : EntryKeeps e (e.enter .vacant) := by
  unfold Entry.enter
  split
  · exact .refl e
  · exact ⟨fun _ => rfl, fun _ => rfl, .inr rfl⟩

/-- Entry into BOUND from a state that bears a serial keeps it, and ends the presence record (Table 1-4). -/
theorem keeps_enter_bound {e : Entry} (hbears : e.state.bearsSerial = true) : EntryKeeps e (e.enter .bound) := by
  by_cases hne : e.state = .bound
  · rw [enter_same hne]
    exact .refl e
  · rw [enter_bound hne]
    exact ⟨fun _ => rfl, fun h => h.trans hbears, .inl rfl⟩

theorem presence_of_bound {e : Entry} (hstate : e.state ≠ .active ∧ e.state ≠ .silent)
    (h : presenceFits e.state e.presence = true) : e.presence = none := by
  cases hp : e.presence with
  | none => rfl
  | some p => simp [presenceFits, hp, hstate] at h

theorem keeps_enter_ranging {e : Entry} (hbound : e.state = .bound) : EntryKeeps e (e.enter .ranging) := by
  rw [enter_ranging (by simp [hbound])]
  refine ⟨fun h => ?_, fun h => h.trans (by rw [hbound]; rfl), .inl rfl⟩
  simp [presence_of_bound (by simp [hbound]) h, presenceFits]

theorem enter_binding {e : Entry} (hne : e.state ≠ .binding) :
    e.enter .binding = { e with state := .binding, rejoinPending := false } := by
  simp [Entry.enter, hne]

theorem keeps_enter_binding {e : Entry} (hplanned : e.state = .planned) : EntryKeeps e (e.enter .binding) := by
  rw [enter_binding (by simp [hplanned])]
  refine ⟨fun h => ?_, fun h => h.trans (by rw [hplanned]; rfl), .inl rfl⟩
  simp [presence_of_bound (by simp [hplanned]) h, presenceFits]

/-- The flag that asks for a rejoin is clear on entry into any other state than BOUND (R12). -/
theorem enter_rejoinPending {e : Entry} {st : EntryState} (hne : e.state ≠ st) (hst : st ≠ .bound) :
    (e.enter st).rejoinPending = false := by
  unfold Entry.enter
  rw [if_neg hne]
  cases st <;> simp_all [Entry.empty, Entry.unbindTo]

/-! Generators -/

/-- The branch's head job is on the drop and counts its frames or matches: it is the job a binding generator serves
(R40, R52). -/
def State.serves (s : State) (b : Branch) (d : Drop) : Bool :=
  match (s.queue b).head? with
  | some j => j.drop = d && ((j.stage = .waitTrace && (s.branch b).frameMarks.isSome) || j.stage = .matching)
  | none => false

theorem playsRight_binding {s : State} {g : Generator} {d : Drop} {b : Branch} (h : g.attached = some (d, .binding b)) :
    s.playsRight g = (decide (g.pattern = bindingCode b) && decide (g.length = 12) && s.serves b d) := by
  unfold State.playsRight State.serves
  simp only [h] <;> rfl

theorem playsRight_port {s : State} {g : Generator} {d : Drop} {p : Port} (h : g.attached = some (d, .port p)) :
    s.playsRight g = (decide (g.observed ≠ 0) && allBranches.all fun b => decide (g.observed ≠ bindingCode b)) := by
  unfold State.playsRight
  rw [h]

/-- The second generator is attached as the first, and plays the same. -/
structure SameWave (g h : Generator) : Prop where
  attached : h.attached = g.attached
  pattern : h.pattern = g.pattern
  length : h.length = g.length

theorem SameWave.refl (g : Generator) : SameWave g g := ⟨rfl, rfl, rfl⟩

theorem SameWave.trans {g h i : Generator} (hgh : SameWave g h) (hhi : SameWave h i) : SameWave g i :=
  ⟨hhi.attached.trans hgh.attached, hhi.pattern.trans hgh.pattern, hhi.length.trans hgh.length⟩

theorem SameWave.observed {g h : Generator} (hgh : SameWave g h) : h.observed = g.observed := by
  simp [Generator.observed, hgh.pattern, hgh.length]

/-- A generator that plays rightly goes on so while its branch's head still serves it. -/
theorem playsRight_of_serves {s t : State} {g h : Generator} (hwave : SameWave g h) (hright : s.playsRight g = true)
    (hserves : ∀ d b, h.attached = some (d, .binding b) → s.serves b d = true → t.serves b d = true) :
    t.playsRight h = true := by
  cases hh : h.attached with
  | none => simp [State.playsRight, hh]
  | some a =>
    have hg : g.attached = some a := by rw [← hwave.attached, hh]
    obtain ⟨d, o⟩ := a
    cases o with
    | port p =>
      rw [playsRight_port hg] at hright
      rw [playsRight_port hh, hwave.observed]
      exact hright
    | binding b =>
      rw [playsRight_binding hg] at hright
      simp only [Bool.and_eq_true] at hright
      rw [playsRight_binding hh, hwave.pattern, hwave.length]
      simp only [Bool.and_eq_true]
      exact ⟨hright.1, hserves d b hh hright.2⟩

/-- Generators that stand or detach keep the laws while the heads still serve those of the bindings. -/
theorem genInv_of_fewer {s t : State} (hs : s.GenInv)
    (hwave : ∀ g, (t.gen g).attached = none ∨ SameWave (s.gen g) (t.gen g))
    (hserves : ∀ g d b, (t.gen g).attached = some (d, .binding b) → s.serves b d = true → t.serves b d = true) :
    t.GenInv := by
  obtain ⟨hapart, hright⟩ := hs
  refine ⟨fun g h hne hg hh => ?_, fun g => ?_⟩
  · rcases hwave g with hnone | hwg
    · simp [hnone] at hg
    · rcases hwave h with hnone | hwh
      · simp [hnone] at hh
      · rw [hwg.attached, hwh.attached, hwg.observed, hwh.observed]
        rw [hwg.attached] at hg
        rw [hwh.attached] at hh
        exact hapart g h hne hg hh
  · rcases hwave g with hnone | hwg
    · simp [State.playsRight, hnone]
    · exact playsRight_of_serves hwg (hright g) fun d b => hserves g d b

/-- No generator plays for a binding whose head does not serve. -/
theorem no_binding_of_not_serving {s : State} (hs : s.GenInv) {b : Branch} {g : Gen} {d : Drop}
    (hserves : s.serves b d = false) : (s.gen g).attached ≠ some (d, .binding b) := by
  intro hattached
  have hright := hs.2 g
  rw [playsRight_binding hattached, hserves] at hright
  simp at hright

/-- A branch whose head job waits for a generator serves none. -/
theorem serves_of_waiting {s : State} {b : Branch} {j : Job} {js : List Job} (hqueue : s.queue b = j :: js)
    (h : (j.stage = .waitTrace ∧ (s.branch b).frameMarks = none) ∨ (j.stage ≠ .waitTrace ∧ j.stage ≠ .matching))
    (d : Drop) : s.serves b d = false := by
  rcases h with ⟨hstage, hmarks⟩ | ⟨h1, h2⟩
  · simp [State.serves, hqueue, hstage, hmarks]
  · simp [State.serves, hqueue, h1, h2]

theorem bindingCode_injective {b c : Branch} (h : bindingCode b = bindingCode c) : b = c := by
  revert b c
  decide

theorem observedOf_bindingCode (b : Branch) : observedOf (bindingCode b) 12 = bindingCode b := by
  revert b
  decide

/-- A generator that serves a binding shows its branch's code. -/
theorem observed_of_binding {s : State} (hs : s.GenInv) {g : Gen} {d : Drop} {b : Branch}
    (hattached : (s.gen g).attached = some (d, .binding b)) : (s.gen g).observed = bindingCode b := by
  have hright := hs.2 g
  rw [playsRight_binding hattached] at hright
  simp only [Bool.and_eq_true, decide_eq_true_eq] at hright
  rw [Generator.observed, hright.1.1, hright.1.2, observedOf_bindingCode]

theorem observed_ne_of_port {s : State} (hs : s.GenInv) {g : Gen} {d : Drop} {p : Port} (b : Branch)
    (hattached : (s.gen g).attached = some (d, .port p)) : (s.gen g).observed ≠ bindingCode b := by
  have hright := hs.2 g
  rw [playsRight_port hattached] at hright
  simp only [Bool.and_eq_true, List.all_eq_true, decide_eq_true_eq] at hright
  exact hright.2 b (List.mem_finRange b)

/-- A new attachment keeps the generators apart where its drop and its sequence are new (R107, R111, R118). -/
theorem genInv_attach {s t : State} (hs : s.GenInv) {g : Gen} {x : Generator} {d : Drop} {o : Owner}
    (hx : x.attached = some (d, o)) (hnew : t.gen g = x) (hothers : ∀ h, h ≠ g → t.gen h = s.gen h)
    (hdrop : ∀ h, h ≠ g → ∀ a, (s.gen h).attached = some a → a.1 ≠ d)
    (hwave : ∀ h, h ≠ g → (s.gen h).attached.isSome = true → (s.gen h).observed ≠ x.observed)
    (hright : t.playsRight x = true)
    (hserves : ∀ h, h ≠ g → ∀ e c, (s.gen h).attached = some (e, .binding c) → s.serves c e = true → t.serves c e = true) :
    t.GenInv := by
  obtain ⟨hapart, hplays⟩ := hs
  have hclash : ∀ h, h ≠ g → (t.gen h).attached.isSome = true →
      x.attached.map Prod.fst ≠ (t.gen h).attached.map Prod.fst ∧ x.observed ≠ (t.gen h).observed := by
    intro h hne hh
    rw [hothers h hne] at hh ⊢
    refine ⟨fun heq => ?_, (hwave h hne hh).symm⟩
    rw [hx, Option.map_some, eq_comm, Option.map_eq_some_iff] at heq
    obtain ⟨a, ha, hd⟩ := heq
    exact hdrop h hne a ha hd
  refine ⟨fun h i hne hh hi => ?_, fun h => ?_⟩
  · by_cases hhg : h = g
    · subst hhg
      rw [hnew]
      exact hclash i hne.symm hi
    · by_cases hig : i = g
      · subst hig
        rw [hnew]
        obtain ⟨h1, h2⟩ := hclash h hhg hh
        exact ⟨h1.symm, h2.symm⟩
      · rw [hothers h hhg, hothers i hig] at *
        exact hapart h i hne hh hi
  · by_cases hhg : h = g
    · rw [hhg, hnew, hright]
    · rw [hothers h hhg]
      exact playsRight_of_serves (.refl _) (hplays h) (hserves h hhg)

end Sys2Proof.Machine

/-! PROOFS. The end of a job (R42, R45): what it takes from its queue, its window and its generator, and what the refill
and the start of the next head leave (R33, R39). -/

namespace Sys2Proof.Machine

/-! What the work on the heads leaves -/

/-- No queue names the drop. -/
def Idle (d : Drop) (s : State) : Prop := ∀ c, ∀ k ∈ s.queue c, k.drop ≠ d

/-- The second state has the jobs of the same drops in the same places and the same waits in ADMIT, and a drop without a job
keeps its entry and gains no binding generator. -/
structure HeadWork (s t : State) : Prop where
  drops : ∀ c, (t.queue c).map Job.drop = (s.queue c).map Job.drop
  admitWait : ∀ c, (t.branch c).admitWait = (s.branch c).admitWait
  entry : ∀ d, Idle d s → t.entry d = s.entry d
  binding : ∀ g d c, Idle d s → (t.gen g).attached = some (d, .binding c) → (s.gen g).attached = some (d, .binding c)

theorem idle_iff {d : Drop} {s : State} : Idle d s ↔ ∀ c, d ∉ (s.queue c).map Job.drop := by
  simp [Idle]

theorem HeadWork.idle {s t : State} (h : HeadWork s t) {d : Drop} (hidle : Idle d s) : Idle d t := by
  rw [idle_iff] at hidle ⊢
  intro c
  rw [h.drops c]
  exact hidle c

theorem HeadWork.refl (s : State) : HeadWork s s := ⟨fun _ => rfl, fun _ => rfl, fun _ _ => rfl, fun _ _ _ _ h => h⟩

theorem HeadWork.trans {s t u : State} (hst : HeadWork s t) (htu : HeadWork t u) : HeadWork s u where
  drops c := (htu.drops c).trans (hst.drops c)
  admitWait c := (htu.admitWait c).trans (hst.admitWait c)
  entry d hidle := (htu.entry d (hst.idle hidle)).trans (hst.entry d hidle)
  binding g d c hidle h := hst.binding g d c hidle (htu.binding g d c (hst.idle hidle) h)

theorem grant_admitWait (s : State) (b : Branch) : ((s.grant b).branch b).admitWait = (s.branch b).admitWait := by
  rcases grant_cases s b with h | h | h | ⟨j, js, hqueue, -, h⟩ <;> rw [h]
  · rw [State.openCall, sendCall_branch, State.setBranch_branch_same]
  · cases hqueue : s.queue b with
    | nil =>
      have hhead : s.setHead b (fun j => { j with attempts := j.attempts + 1 }) = s := by simp only [State.setHead, hqueue]
      rw [State.matchAttempt, hhead, sendCall_branch, State.setBranch_branch_same]
    | cons j js => rw [matchAttempt_eq hqueue, sendCall_branch, State.setBranch_branch_same]
  · rw [State.rangeTry, setHead_eq hqueue, sendCall_branch, dropReading_branch, State.setBranch_branch_same, State.setQueue,
      State.setBranch_branch_same]

theorem headWork_grant (s : State) (b : Branch) : HeadWork s (s.grant b) where
  drops c := by
    by_cases hc : c = b
    · rw [hc]
      rcases (grant_branch_same s b).2 with h | ⟨j, js, hqueue, h⟩
      · rw [h]
      · rw [h, hqueue]
        rfl
    · rw [State.queue, grant_branch_ne s b hc]
      rfl
  admitWait c := by
    by_cases hc : c = b
    · rw [hc, grant_admitWait]
    · rw [grant_branch_ne s b hc]
  entry d _ := grant_entry s b d
  binding g d c _ h := by rwa [grant_gen] at h

theorem headWork_giveGenerator (s : State) (b : Branch) (g : Gen) : HeadWork s (s.giveGenerator b g) := by
  cases hqueue : s.queue b with
  | nil =>
    have hsame : s.giveGenerator b g = s := by simp only [State.giveGenerator, hqueue]
    rw [hsame]
    exact .refl s
  | cons j js =>
    refine ⟨fun c => by rw [(traceWork_giveGenerator s b g).queue], fun c => ?_, fun d _ => ?_, fun h d c hidle hh => ?_⟩
    · rw [marksOnly_giveGenerator s b g c]
    · rw [(traceWork_giveGenerator s b g).frame]
      rfl
    · rw [giveGenerator_eq hqueue] at hh
      change ((s.setGen g ⟨some (j.drop, .binding b), bindingCode b, 12, .cleared⟩).gen h).attached = _ at hh
      rw [State.setGen_gen] at hh
      split at hh
      · have hdrop : j.drop = d := (Prod.ext_iff.mp (Option.some.inj hh)).1
        exact absurd hdrop (hidle b j (by rw [hqueue]; exact List.mem_cons_self ..))
      · exact hh

theorem headWork_offer (s : State) (g : Gen) : HeadWork s (s.offer g) := by
  rcases offer_cases s g with h | ⟨b, -, h⟩ <;> rw [h]
  · exact .refl s
  · exact headWork_giveGenerator s b g

theorem headWork_offerAll (gs : List Gen) (s : State) : HeadWork s (s.offerAll gs) := by
  induction gs generalizing s with
  | nil => exact .refl s
  | cons g gs ih => exact (headWork_offer s g).trans (ih _)

theorem headWork_requestGenerator (s : State) (b : Branch) : HeadWork s (s.requestGenerator b) := by
  rcases requestGenerator_cases s b with h | ⟨g, -, -, h⟩ <;> rw [h]
  · exact .refl s
  · exact headWork_giveGenerator s b g

/-- The head of a queue may change in all but its drop. -/
theorem headWork_setQueue {s : State} {b : Branch} {j k : Job} {js : List Job} (hqueue : s.queue b = j :: js)
    (hdrop : k.drop = j.drop) : HeadWork s (s.setQueue b (k :: js)) where
  drops c := by
    rw [State.setQueue_queue]
    split
    next hbc => rw [← hbc, hqueue, List.map_cons, List.map_cons, hdrop]
    next => rfl
  admitWait c := by
    rw [State.setQueue, State.setBranch_branch]
    split
    next hbc => rw [hbc]
    next => rfl
  entry _ _ := rfl
  binding _ _ _ _ h := h

theorem headWork_startHead (s : State) (b : Branch) : HeadWork s (s.startHead b) := by
  rcases startHead_cases s b with h | ⟨j, js, hqueue, -, -, -, h⟩ | ⟨j, js, hqueue, -, -, -, h⟩ <;> rw [h]
  · exact .refl s
  · exact (headWork_setQueue (k := { j with stage := .waitTrace }) hqueue rfl).trans (headWork_requestGenerator _ b)
  · have hhead := headWork_setQueue (k := { j with stage := .range, attempts := 0 }) hqueue rfl
    refine ⟨hhead.drops, hhead.admitWait, fun d hidle => ?_, hhead.binding⟩
    exact State.setEntry_entry_ne _ _ _ _ (hidle b j (by rw [hqueue]; exact List.mem_cons_self ..))

theorem headWork_proceed (s : State) (b : Branch) : HeadWork s (s.proceed b) :=
  (headWork_startHead s b).trans (headWork_grant _ b)

/-! The departure itself (R42, steps 1 to 4) -/

section
variable (s : State) (j : Job) (e : Entry)

/-- The state between the departure of a job and the offer of its generator. -/
def State.departed : State :=
  ((s.detachWhere (bindingGenOf j)).setBranch j.drop.branch ((s.branch j.drop.branch).removeJob j)).setEntry j.drop e

theorem dropJob_eq : s.dropJob j e = (s.departed j e).offerAll (s.gensWhere (bindingGenOf j)) := rfl

theorem departed_branch : (s.departed j e).branch j.drop.branch = (s.branch j.drop.branch).removeJob j :=
  State.setBranch_branch_same ..

theorem departed_branch_ne {c : Branch} (hne : c ≠ j.drop.branch) : (s.departed j e).branch c = s.branch c :=
  State.setBranch_branch_ne _ _ _ _ hne.symm

theorem departed_queue : (s.departed j e).queue j.drop.branch =
    (s.queue j.drop.branch).filter fun k => k.drop ≠ j.drop := congrArg BranchCtl.queue (departed_branch s j e)

theorem departed_gen (g : Gen) : (s.departed j e).gen g = (s.detachWhere (bindingGenOf j)).gen g := rfl

theorem dropJob_headWork : HeadWork (s.departed j e) (s.dropJob j e) := headWork_offerAll _ _

theorem dropJob_branch (b : Branch) : (s.dropJob j e).branch b =
    { (s.departed j e).branch b with frameMarks := ((s.dropJob j e).branch b).frameMarks } :=
  marksOnly_offerAll (s.gensWhere (bindingGenOf j)) (s.departed j e) b

theorem dropJob_entry (d : Drop) : (s.dropJob j e).entry d = if j.drop = d then e else s.entry d := by
  rw [dropJob_eq, (traceWork_offerAll _ _).frame]
  exact State.setEntry_entry ..

theorem dropJob_queue : (s.dropJob j e).queue j.drop.branch =
    (s.queue j.drop.branch).filter fun k => k.drop ≠ j.drop := by
  rw [dropJob_eq, (traceWork_offerAll _ _).queue, departed_queue]

theorem dropJob_queue_ne {c : Branch} (hne : c ≠ j.drop.branch) : (s.dropJob j e).queue c = s.queue c := by
  rw [dropJob_eq, (traceWork_offerAll _ _).queue, State.queue, departed_branch_ne s j e hne]
  rfl

theorem departed_idle {s : State} {j : Job} (e : Entry) (hqueues : ∀ c, ∀ k ∈ s.queue c, k.drop.branch = c) :
    Idle j.drop (s.departed j e) := by
  intro c k hk hdrop
  by_cases hc : c = j.drop.branch
  · rw [hc, departed_queue] at hk
    simpa [hdrop] using (List.mem_filter.mp hk).2
  · rw [State.queue, departed_branch_ne s j e hc] at hk
    exact hc ((hqueues c k hk).symm.trans (by rw [hdrop]))

end

/-! The window of a departing job (R42, step 2) -/

theorem jobHoldsWindow_iff {c : BranchCtl} {st : Stage} : c.jobHoldsWindow st = true ↔
    (st = .matching ∧ c.window = .matchListen ∧ ∀ n, c.decided ≠ some (n, .succeeded)) ∨
      (st = .range ∧ c.window = .rangeListen) := by
  have hdecided : c.decided.map Prod.snd ≠ some .succeeded ↔ ∀ n, c.decided ≠ some (n, .succeeded) := by
    rw [ne_eq, decided_succeeded_iff, not_exists]
  unfold BranchCtl.jobHoldsWindow
  split
  next hwindow => simp [hwindow, hdecided]
  next hwindow => simp [hwindow]
  next hmatch hrange =>
    refine ⟨fun h => (by cases h), ?_⟩
    rintro (⟨rfl, hw, -⟩ | ⟨rfl, hw⟩)
    · exact absurd hw (hmatch rfl)
    · exact absurd hw (hrange rfl)

section
variable {c : BranchCtl} {j : Job}

theorem removeJob_held (h : c.jobHoldsWindow j.stage = true) : c.removeJob j =
    { c with
      queue := c.queue.filter fun k => k.drop ≠ j.drop, window := .none, listenMs := none, decided := none
      rangeCounter := none, frameMarks := (c.removeJob j).frameMarks, admitWait := (c.removeJob j).admitWait } := by
  unfold BranchCtl.removeJob
  rw [if_pos h]
  dsimp only
  split <;> rfl

theorem removeJob_free (h : c.jobHoldsWindow j.stage = false) : c.removeJob j =
    { c with
      queue := c.queue.filter fun k => k.drop ≠ j.drop
      frameMarks := (c.removeJob j).frameMarks, admitWait := (c.removeJob j).admitWait } := by
  unfold BranchCtl.removeJob
  rw [if_neg (by rw [h]; decide)]
  dsimp only
  split <;> rfl

theorem removeJob_running (h : j.stage ≠ .waiting) :
    (c.removeJob j).admitWait = none ∧ (c.removeJob j).frameMarks = none := by
  unfold BranchCtl.removeJob
  dsimp only
  rw [if_neg h]
  exact ⟨rfl, rfl⟩

theorem removeJob_waiting (h : j.stage = .waiting) : c.removeJob j = { c with
    queue := c.queue.filter fun k => k.drop ≠ j.drop } := by
  unfold BranchCtl.removeJob
  dsimp only
  rw [if_pos h, if_neg (by rw [h]; exact Bool.false_ne_true)]

theorem removeJob_call : (c.removeJob j).openDue = c.openDue ∧ (c.removeJob j).openTimer = c.openTimer := by
  unfold BranchCtl.removeJob BranchCtl.endListening
  dsimp only
  split_ifs <;> exact ⟨rfl, rfl⟩

end

/-! The refill of a queue (R33) -/

theorem mem_pendingDrops {s : State} {b : Branch} {d : Drop} :
    d ∈ s.pendingDrops b ↔ d.branch = b ∧ (s.entry d).rejoinPending = true := by
  simp [State.pendingDrops, dropsOf, allDrops, and_comm]

theorem pendingDrops_head {s : State} {b : Branch} {d : Drop} (hbranch : d.branch = b)
    (hpending : (s.entry d).rejoinPending = true)
    (hlowest : ∀ e : Drop, e.branch = b → e < d → (s.entry e).rejoinPending = false) :
    ∃ ds, s.pendingDrops b = d :: ds := by
  have hhead : (s.pendingDrops b).head? = some d := by
    rw [State.pendingDrops, dropsOf, List.filter_filter, List.head?_filter]
    refine find?_finRange_eq_some.mpr ⟨by simp [hbranch, hpending], fun e he => ?_⟩
    by_cases hb : Drop.branch e = b
    · simp [hlowest e hb he]
    · simp [hb]
  exact ⟨_, (List.cons_head?_tail hhead).symm⟩

theorem refill_stays {s : State} {b : Branch}
    (h : s.intakeOpen = false ∨ 6 ≤ (s.queue b).length ∨ ∀ d : Drop, d.branch = b → (s.entry d).rejoinPending = false) :
    s.refill b = s := by
  rcases refill_cases s b with hsame | ⟨d, ds, hopen, hroom, hpending, -⟩
  · exact hsame
  · obtain ⟨hbranch, hflag⟩ := mem_pendingDrops.mp (by rw [hpending]; exact List.mem_cons_self ..)
    rcases h with h | h | h
    · rw [h] at hopen
      cases hopen
    · omega
    · rw [h d hbranch] at hflag
      cases hflag

theorem refill_queued {s : State} {b : Branch} {d : Drop} {ds : List Drop} (hopen : s.intakeOpen = true)
    (hroom : (s.queue b).length < 6) (hpending : s.pendingDrops b = d :: ds) : s.refill b = s.queuePending d := by
  have hmay : s.intakeOpen = true ∧ (s.queue b).length < Config.queueLimit := ⟨hopen, hroom⟩
  rw [State.refill, if_pos hmay, hpending]

theorem queuePending_eq (s : State) (d : Drop) : s.queuePending d = (s.setBranch d.branch { s.branch d.branch with
    queue := s.queue d.branch ++ [⟨d, .rejoin, .waiting, .roster, 0⟩] }).setEntry d
      { s.entry d with rejoinPending := false } := rfl

/-- What a refill leaves: a drop without a job and without a pending flag, the other queues, and the waits in ADMIT. -/
theorem refill_leaves (s : State) (b : Branch) :
    (∀ d, Idle d s → (s.entry d).rejoinPending = false → Idle d (s.refill b) ∧ (s.refill b).entry d = s.entry d) ∧
    (∀ g, (s.refill b).gen g = s.gen g) ∧ (∀ c, c ≠ b → (s.refill b).queue c = s.queue c) ∧
    ((s.refill b).queue b).length ≤ (s.queue b).length + 1 ∧
    ∀ c, ((s.refill b).branch c).admitWait = (s.branch c).admitWait := by
  rcases refill_cases s b with h | ⟨d, ds, hopen, hroom, hpending, h⟩ <;> rw [h]
  · exact ⟨fun _ hidle _ => ⟨hidle, rfl⟩, fun _ => rfl, fun _ _ => rfl, Nat.le_succ _, fun _ => rfl⟩
  · obtain ⟨hbranch, hflag⟩ := mem_pendingDrops.mp (by rw [hpending]; exact List.mem_cons_self ..)
    have hqueue (c : Branch) : (s.queuePending d).queue c =
        if d.branch = c then s.queue c ++ [⟨d, .rejoin, .waiting, .roster, 0⟩] else s.queue c := appendJob_queue s d _ _ c
    refine ⟨fun e hidle hclear => ⟨fun c k hk => ?_, ?_⟩, fun _ => rfl, fun c hc => ?_, ?_, fun c => ?_⟩
    · have hne : d ≠ e := fun hde => by
        rw [hde, hclear] at hflag
        cases hflag
      rw [hqueue] at hk
      split at hk
      · rcases List.mem_append.mp hk with hk | hk
        · exact hidle c k hk
        · rw [List.mem_singleton.mp hk]
          exact hne
      · exact hidle c k hk
    · refine State.setEntry_entry_ne _ _ _ _ fun hde => ?_
      rw [hde, hclear] at hflag
      cases hflag
    · rw [hqueue, if_neg (by rw [hbranch]; exact hc.symm)]
    · rw [hqueue, if_pos hbranch, List.length_append]
      exact Nat.le_refl _
    · change ((s.setBranch d.branch _).branch c).admitWait = _
      rw [State.setBranch_branch]
      split
      next hdc => rw [hdc]
      next => rfl

/-! The end of a job as a whole (R42, R43) -/

/-- An event that may be there is raised. -/
def State.raiseIf (s : State) (ev : Option Event) : State := ev.elim s fun x => s.raise x

theorem endJob_eq (s : State) (j : Job) (e : Entry) (ev : Option Event) : s.endJob j e ev =
    (((s.dropJob j e).raiseIf ev).refill j.drop.branch).proceed j.drop.branch := by
  cases ev <;> rfl

theorem raiseIf_frame (s : State) (ev : Option Event) : s.raiseIf ev = { s with ports := (s.raiseIf ev).ports } := by
  cases ev <;> rfl

theorem jobWork_refill_proceed (s : State) (b : Branch) : JobWork s ((s.refill b).proceed b) :=
  (jobWork_refill s b).trans (jobWork_proceed _ b)

theorem endJob_port (s : State) (j : Job) (e : Entry) (ev : Option Event) (p : Port) :
    (s.endJob j e ev).port p = ev.elim (s.port p) fun x => (s.port p).raise x := by
  rw [endJob_eq, (jobWork_refill_proceed _ _).port]
  cases ev with
  | none => exact (jobWork_dropJob s j e).port p
  | some x =>
    change ((s.dropJob j e).raise x).port p = _
    rw [State.raise_port, (jobWork_dropJob s j e).port]
    rfl

theorem endJob_frame (s : State) (j : Job) (e : Entry) (ev : Option Event) :
    s.endJob j e ev = { s with
      branches := (s.endJob j e ev).branches, lanes := (s.endJob j e ev).lanes, roster := (s.endJob j e ev).roster
      generators := (s.endJob j e ev).generators, lastServed := (s.endJob j e ev).lastServed
      ports := (s.endJob j e ev).ports } := by
  have hafter := jobWork_refill_proceed ((s.dropJob j e).raiseIf ev) j.drop.branch
  rw [endJob_eq, hafter, raiseIf_frame, jobWork_dropJob s j e]

/-- A job that has ended leaves its drop without a job and with the ending values, whatever starts after it. -/
theorem endJob_drop {s : State} {j : Job} {e : Entry} (ev : Option Event)
    (hqueues : ∀ c, ∀ k ∈ s.queue c, k.drop.branch = c) (hflag : e.rejoinPending = false) :
    let t := s.endJob j e ev
    Idle j.drop t ∧ t.entry j.drop = e ∧
    (∀ g c, (t.gen g).attached = some (j.drop, .binding c) →
      ((s.detachWhere (bindingGenOf j)).gen g).attached = some (j.drop, .binding c)) ∧
    (∀ c, c ≠ j.drop.branch → (t.queue c).map Job.drop = (s.queue c).map Job.drop) ∧
    (t.queue j.drop.branch).length ≤ ((s.queue j.drop.branch).filter fun k => k.drop ≠ j.drop).length + 1 ∧
    (t.branch j.drop.branch).admitWait = ((s.branch j.drop.branch).removeJob j).admitWait := by
  intro t
  have hleft := dropJob_headWork s j e
  have hgone := departed_idle (j := j) e hqueues
  have hproceed := headWork_proceed (((s.dropJob j e).raiseIf ev).refill j.drop.branch) j.drop.branch
  rw [← endJob_eq] at hproceed
  obtain ⟨hrefill, hgens, hothers, hlength, hwaits⟩ := refill_leaves ((s.dropJob j e).raiseIf ev) j.drop.branch
  have hraised : (∀ c, ((s.dropJob j e).raiseIf ev).branch c = (s.dropJob j e).branch c) ∧
      (∀ d, ((s.dropJob j e).raiseIf ev).entry d = (s.dropJob j e).entry d) ∧
      ∀ g, ((s.dropJob j e).raiseIf ev).gen g = (s.dropJob j e).gen g := by
    cases ev <;> exact ⟨fun _ => rfl, fun _ => rfl, fun _ => rfl⟩
  obtain ⟨hbranches, hentries, hraisedGens⟩ := hraised
  have hqueue (c : Branch) : ((s.dropJob j e).raiseIf ev).queue c = (s.dropJob j e).queue c :=
    congrArg BranchCtl.queue (hbranches c)
  have hidle : Idle j.drop ((s.dropJob j e).raiseIf ev) := fun c k hk => hleft.idle hgone c k (by rwa [← hqueue])
  have hentry : ((s.dropJob j e).raiseIf ev).entry j.drop = e := by rw [hentries, dropJob_entry, if_pos rfl]
  obtain ⟨hidle', hentry'⟩ := hrefill j.drop hidle (by rw [hentry]; exact hflag)
  refine ⟨hproceed.idle hidle', ?_, fun g c hg => ?_, fun c hc => ?_, ?_, ?_⟩
  · rw [hproceed.entry _ hidle', hentry', hentry]
  · have hbefore := hproceed.binding g _ c hidle' hg
    rw [hgens, hraisedGens] at hbefore
    exact hleft.binding g _ c hgone hbefore
  · rw [hproceed.drops, hothers c hc, hqueue, dropJob_queue_ne s j e hc]
  · have hlengths := congrArg List.length (hproceed.drops j.drop.branch)
    rw [List.length_map, List.length_map] at hlengths
    rw [hlengths, ← dropJob_queue s j e, ← hqueue]
    exact hlength
  · rw [hproceed.admitWait, hwaits, hbranches, dropJob_branch, departed_branch]

theorem jobOf_of_idle {s : State} {d : Drop} (h : Idle d s) : s.jobOf d = none :=
  List.find?_eq_none.mpr fun k hk => by simpa using h _ k hk

theorem bindingGenOf_binding {j : Job} {g : Generator} {d : Drop} (h : g.attached = some (d, .binding j.drop.branch))
    (hstage : j.stage = .waitTrace ∨ j.stage = .matching) : bindingGenOf j g = true := by
  rcases hstage with hstage | hstage <;> simp [bindingGenOf, hstage, Generator.ownedBy, h]

/-- Settles O18. -/
theorem endedJobLeavesItsQueue : Obligations.EndedJobLeavesItsQueue := by
  refine ⟨fun s j e ev hinv hmem hflag hfree => ?ended, fun s j e ev => ?parts, fun s b => ⟨fun d hopen hroom hbranch
    hpending hlowest => ?queued, refill_stays⟩⟩
  case queued =>
    obtain ⟨ds, hds⟩ := pendingDrops_head hbranch hpending hlowest
    rw [refill_queued hopen hroom hds, queuePending_eq, hbranch]
  case ended =>
    intro t
    obtain ⟨hcore, -, -⟩ := jobInv_iff.mp hinv
    obtain ⟨hidle, hentry, hbinding, hothers, hlength, hwait⟩ :=
      endJob_drop ev (fun c k hk => (hcore.queues c).own k hk) hflag
    have hcount := length_filter_drop (hcore.queues _) hmem
    refine ⟨jobOf_of_idle hidle, hentry, fun g hg => ?_, hothers, hlength.trans (Nat.le_of_eq hcount), fun hstage => ?_, fun x hx p => ?_,
      endJob_frame s j e ev⟩
    · have hstill := hbinding g _ hg
      by_cases hstage : j.stage = .waitTrace ∨ j.stage = .matching
      · rw [detachWhere_gen] at hstill
        split at hstill
        · cases hstill
        next hkept =>
          rw [hstill, bindingGenOf_binding hstill hstage] at hkept
          exact hkept rfl
      · rw [not_or] at hstage
        refine hfree hstage g ?_
        rw [detachWhere_gen] at hstill
        split at hstill
        · cases hstill
        · exact hstill
    · rw [hwait, (removeJob_running hstage).1]
    · rw [endJob_port, hx]
      rfl
  case parts =>
    intro b u held
    have hbranch : u.branch b = { (s.branch b).removeJob j with frameMarks := (u.branch b).frameMarks } := by
      have hdropped := dropJob_branch s j e b
      rwa [departed_branch] at hdropped
    refine ⟨by cases ev <;> rfl, dropJob_queue s j e, (dropJob_entry s j e _).trans (if_pos rfl),
      fun d hd => (dropJob_entry s j e d).trans (if_neg hd.symm), fun hheld => ?_, fun hfree => ?_, fun hstage => ?_,
      fun hstage => ?_, ?_, ?_⟩
    · rw [hbranch, removeJob_held (jobHoldsWindow_iff.mpr hheld)]
      exact ⟨rfl, rfl, rfl, rfl⟩
    · rw [hbranch, removeJob_free (Bool.eq_false_iff.mpr fun h => hfree (jobHoldsWindow_iff.mp h))]
      exact ⟨rfl, rfl, rfl, rfl⟩
    · rw [hbranch]
      exact (removeJob_running hstage).1
    · rw [hbranch, removeJob_waiting hstage]
    · rw [hbranch]
      exact removeJob_call.1
    · rw [hbranch]
      exact removeJob_call.2

end Sys2Proof.Machine

/-! PROOFS. CANCEL (R44, R45), and UNTRACE with the offer of a freed generator (R113, R115, R117). -/

namespace Sys2Proof.Machine

/-! The calls on a lane only grow (R75) -/

/-- Every call sent before the first state is sent before the second. -/
def CallsGrow (s t : State) : Prop := ∀ b, (s.lane b).calls <+: (t.lane b).calls

theorem CallsGrow.refl (s : State) : CallsGrow s s := fun _ => List.prefix_refl _

theorem CallsGrow.trans {s t u : State} (hst : CallsGrow s t) (htu : CallsGrow t u) : CallsGrow s u := fun b =>
  (hst b).trans (htu b)

theorem CallsGrow.of_lanes {s t : State} (h : t.lanes = s.lanes) : CallsGrow s t := fun b => by
  rw [State.lane, State.lane, h]

theorem sendCall_calls (s : State) (b : Branch) (c : Call) : ((s.sendCall b c).lane b).calls = (s.lane b).calls ++ [c] :=
  congrArg Lane.calls (State.setLane_lane_same ..)

theorem callsGrow_setLane {s : State} {b : Branch} {l : Lane} (h : (s.lane b).calls <+: l.calls) :
    CallsGrow s (s.setLane b l) := fun c => by
  rw [State.setLane_lane]
  split
  next hbc => rwa [← hbc]
  next => exact List.prefix_refl _

theorem callsGrow_sendCall (s : State) (b : Branch) (c : Call) : CallsGrow s (s.sendCall b c) :=
  callsGrow_setLane (List.prefix_append ..)

theorem callsGrow_grant (s : State) (b : Branch) : CallsGrow s (s.grant b) := by
  rcases grant_cases s b with h | h | h | ⟨j, js, hqueue, -, h⟩ <;> rw [h]
  · exact .refl s
  · exact callsGrow_sendCall (s.setBranch b _) b _
  · have hlanes (f : Job → Job) : (s.setHead b f).lanes = s.lanes := by
      unfold State.setHead
      split <;> rfl
    exact CallsGrow.trans (.of_lanes (hlanes _)) (callsGrow_sendCall _ b _)
  · rw [State.rangeTry, setHead_eq hqueue]
    refine CallsGrow.trans ?_ (callsGrow_sendCall _ b _)
    exact callsGrow_setLane (s := (s.setQueue b _).setBranch b _) (List.prefix_refl _)

theorem startHead_lanes (s : State) (b : Branch) : (s.startHead b).lanes = s.lanes := by
  rcases startHead_cases s b with h | ⟨j, js, -, -, -, -, h⟩ | ⟨j, js, -, -, -, -, h⟩ <;> rw [h]
  · rw [(traceWork_requestGenerator _ b).frame]
    rfl
  · rfl

theorem callsGrow_endJob (s : State) (j : Job) (e : Entry) (ev : Option Event) : CallsGrow s (s.endJob j e ev) := by
  have hbefore : ((((s.dropJob j e).raiseIf ev).refill j.drop.branch).startHead j.drop.branch).lanes = s.lanes := by
    have hrefill : (((s.dropJob j e).raiseIf ev).refill j.drop.branch).lanes = ((s.dropJob j e).raiseIf ev).lanes := by
      rcases refill_cases ((s.dropJob j e).raiseIf ev) j.drop.branch with h | ⟨d, ds, -, -, -, h⟩ <;> rw [h]
      rfl
    rw [startHead_lanes, hrefill, raiseIf_frame, dropJob_eq, (traceWork_offerAll _ _).frame]
    rfl
  rw [endJob_eq]
  exact CallsGrow.trans (.of_lanes hbefore) (callsGrow_grant _ _)

/-! CANCEL -/

section
variable {s : State} {r : Request} {d : Drop}

theorem exec_cancel {t : State} {a : Answer} (htakes : s.Takes r) (hbody : requestBody .cancel r s = (t, a)) :
    exec (.cancel r) s = .next (t.respond r 0x15 a) :=
  exec_request_body (k := .cancel) rfl (by decide) (by decide) htakes rfl hbody

theorem cancelBody_job {j : Job} (hparams : r.params = [byteOf d.val]) (hact : s.mayAct r.port d = true)
    (hjob : s.jobOf d = some j) : requestBody .cancel r s = (s.cancelJob j, .ok) := by
  simp only [requestBody, cancelBody, hparams, parseDrop_byteOf, withParams_some, hjob, claimCheck_of_mayAct hact]
  rfl

theorem cancelBody_none (hparams : r.params = [byteOf d.val]) (hact : s.mayAct r.port d = true)
    (hjob : s.jobOf d = none) : requestBody .cancel r s = (s, .just .notFound) := by
  simp only [requestBody, cancelBody, hparams, parseDrop_byteOf, withParams_some, hjob, claimCheck_of_mayAct hact]
  rfl

theorem cancelBody_notMayAct (hparams : r.params = [byteOf d.val]) (hact : s.mayAct r.port d = false) :
    requestBody .cancel r s = (s, .just (if r.port = .uplink then .claimed else .notClaimed)) := by
  simp only [requestBody, cancelBody, hparams, parseDrop_byteOf, withParams_some, claimCheck_of_not_mayAct hact]
  cases s.jobOf d <;> rfl

/-- The state of an entry with a job, by the job's stage (R11). -/
theorem state_of_job (hinv : s.JobInv) {j : Job} (hjob : s.jobOf d = some j) :
    (j.stage = .matching → (s.entry d).state = .binding) ∧
    (j.stage = .range ∨ j.stage = .admitting → (s.entry d).state = .ranging) ∧ (s.entry d).rejoinPending = false := by
  obtain ⟨hcore, -, -⟩ := jobInv_iff.mp hinv
  obtain ⟨hpaired, hpending⟩ := hcore.drops d
  rw [hjob] at hpaired hpending
  refine ⟨fun hstage => ?_, fun hstage => ?_, ?_⟩
  · cases hkind : j.kind with
    | activate => simpa [paired, hstage, hkind] using hpaired
    | rejoin => simp [paired, hstage, hkind] at hpaired
  · rcases hstage with hstage | hstage <;> cases hkind : j.kind <;> simpa [paired, hstage, hkind] using hpaired
  · rw [Bool.eq_false_iff]
    intro h
    cases (hpending h).2

/-- Settles O19. -/
theorem cancelEndsJobByStage : Obligations.CancelEndsJobByStage := by
  refine ⟨fun s r d j hinv htakes hparams hact hjob => ?cancelled, fun s r d htakes hparams hact hjob =>
    exec_cancel htakes (cancelBody_none hparams hact hjob), fun s r d htakes hparams hact =>
    exec_cancel htakes (cancelBody_notMayAct hparams hact)⟩
  case cancelled =>
    intro e
    obtain ⟨hmem, hdrop⟩ := mem_of_jobOf hjob
    subst hdrop
    obtain ⟨hcore, -, -⟩ := jobInv_iff.mp hinv
    obtain ⟨hbinding, hranging, hclear⟩ := state_of_job hinv hjob
    have he : (s.entry j.drop).cancelled j.stage = e := by
      dsimp only [e]
      cases hstage : j.stage with
      | waiting => rfl
      | waitTrace => rfl
      | matching =>
        rw [Entry.cancelled, enter_planned (by rw [hbinding hstage]; decide)]
        rfl
      | range =>
        rw [Entry.cancelled, enter_bound (by rw [hranging (.inl hstage)]; decide)]
        rfl
      | admitting =>
        rw [Entry.cancelled, enter_bound (by rw [hranging (.inr hstage)]; decide)]
        rfl
    have hflag : e.rejoinPending = false := by
      dsimp only [e]
      cases j.stage with
      | matching => rfl
      | _ => exact hclear
    obtain ⟨s1, hs1, hlanes, hcalls⟩ : ∃ s1, s.cancelJob j = s1.endJob j e none ∧ s1 = { s with lanes := s1.lanes } ∧
        ((j.stage ≠ .admitting → s1 = s) ∧ (j.stage = .admitting → ∀ n, (s.entry j.drop).serial = some n →
          s1 = s.sendCall j.drop.branch (.withdraw n))) := by
      rw [← he]
      by_cases hstage : j.stage = .admitting
      · refine ⟨s.sendCall j.drop.branch (.withdraw ((s.entry j.drop).serial.getD 0)), ?_, rfl,
          fun hno => absurd hstage hno, fun _ n hn => by rw [hn]; rfl⟩
        rw [State.cancelJob, if_pos hstage]
      · refine ⟨s, ?_, rfl, fun _ => rfl, fun h => absurd h hstage⟩
        rw [State.cancelJob, if_neg hstage]
    have hqueues (c : Branch) (k : Job) (hk : k ∈ s1.queue c) : k.drop.branch = c := by
      rw [hlanes] at hk
      exact (hcore.queues c).own k hk
    have hport (p : Port) : (s.cancelJob j).port p = s.port p := by
      rw [hs1, endJob_port, hlanes]
      rfl
    obtain ⟨hidle, hentry, -⟩ := endJob_drop none hqueues hflag
    have hframe := endJob_frame s1 j e none
    have hgrow := callsGrow_endJob s1 j e none j.drop.branch
    rw [← hs1] at hidle hentry hframe hgrow
    have hexec := exec_cancel htakes (cancelBody_job hparams hact hjob)
    generalize s.cancelJob j = t at *
    refine ⟨_, hexec, fun hstage => ?_, fun hstage n hn => ?_, ?_,
      fun p hp => ?_, jobOf_of_idle hidle, hentry, fun hstage n hn => ?_, ?_⟩
    · rw [hs1, hcalls.1 hstage]
    · rw [hs1, hcalls.2 hstage n hn]
    · rw [State.respond_port_same, hport]
      rfl
    · rw [State.respond_port_ne _ _ _ _ _ hp.symm, hport]
    · rw [hcalls.2 hstage n hn, sendCall_calls] at hgrow
      exact hgrow
    · rw [hlanes] at hframe
      rw [hframe]
      rfl

end

/-! UNTRACE and the offers -/

theorem genOn_eq_some {s : State} {d : Drop} {g : Gen} (h : s.genOn d = some g) : (s.gen g).on d = true := by
  simpa using List.find?_some h

section
variable {s : State} {r : Request} {d : Drop}

theorem exec_untrace {t : State} {a : Answer} (htakes : s.Takes r) (hbody : requestBody .untrace r s = (t, a)) :
    exec (.untrace r) s = .next (t.respond r 0x17 a) :=
  exec_request_body (k := .untrace) rfl (by decide) (by decide) htakes rfl hbody

end

theorem mem_turnAfter (b c : Branch) : c ∈ turnAfter b := by
  revert b c
  decide

theorem offer_none {s : State} {g : Gen} (h : ∀ b, s.bindingWait b ≠ some .eligible) : s.offer g = s := by
  rcases offer_cases s g with hsame | ⟨b, hwait, -⟩
  · exact hsame
  · exact absurd hwait (h b)

theorem bindingWait_ne_eligible {s : State} {b : Branch} (h : (s.queue b).head?.map Job.stage ≠ some .waitTrace) :
    s.bindingWait b ≠ some .eligible := by
  intro hwait
  obtain ⟨j, js, hqueue, hstage, -, -⟩ := bindingWait_eq_some hwait
  exact h (by rw [hqueue, ← hstage]; rfl)

theorem turnAfter_eq (b : Branch) : turnAfter b = (List.finRange 4).map fun k => b + 1 + k := by
  revert b
  decide

/-- The turns after a branch, one after another (R117). -/
theorem turnAfter_find {b : Branch} {p : Branch → Bool} (i : Fin 4) (hi : p (b + 1 + i) = true)
    (hbefore : ∀ k, k < i → p (b + 1 + k) = false) : (turnAfter b).find? p = some (b + 1 + i) := by
  have hfound : (List.finRange 4).find? (p ∘ fun k => b + 1 + k) = some i := find?_finRange_eq_some.mpr ⟨hi, hbefore⟩
  rw [turnAfter_eq, List.find?_map, hfound]
  rfl

/-- A test that one attached generator passes detaches that one alone. -/
theorem detachAndOffer_only {s : State} {g : Gen} {p : Generator → Bool}
    (hg : ((s.gen g).attached.isSome && p (s.gen g)) = true)
    (honly : ∀ h, ((s.gen h).attached.isSome && p (s.gen h)) = true → h = g) :
    s.detachAndOffer p = (s.setGen g { s.gen g with attached := none }).offer g := by
  have hgens : (s.detachWhere p).generators = (s.setGen g { s.gen g with attached := none }).generators := by
    refine Vector.ext fun i hi => ?_
    refine (detachWhere_gen s p ⟨i, hi⟩).trans ((?_ : _ = (s.setGen g _).gen ⟨i, hi⟩))
    by_cases hgi : (⟨i, hi⟩ : Gen) = g
    · rw [hgi, if_pos hg, State.setGen_gen_same]
      rfl
    · rw [if_neg fun h => hgi (honly _ h), State.setGen_gen_ne _ _ _ _ (Ne.symm hgi)]
  have hdetached : s.detachWhere p = s.setGen g { s.gen g with attached := none } :=
    calc s.detachWhere p = { s with generators := (s.detachWhere p).generators } := rfl
      _ = { s with generators := (s.setGen g { s.gen g with attached := none }).generators } := by rw [hgens]
  have hsingle : s.gensWhere p = [g] := by
    have hone : ∀ g : Gen, (allGens.filter fun h => decide (h = g)) = [g] := by decide
    refine (List.filter_congr fun h _ => ?_).trans (hone g)
    rw [Bool.eq_iff_iff, decide_eq_true_iff]
    exact ⟨honly h, fun h => h ▸ hg⟩
  rw [State.detachAndOffer, hdetached, hsingle]
  rfl

theorem on_iff {g : Generator} {d : Drop} : g.on d = true ↔ ∃ a, g.attached = some a ∧ a.1 = d := by
  simp [Generator.on]

/-- Settles O21. -/
theorem untraceDetachesAndFreedGeneratorIsOffered : Obligations.UntraceDetachesAndFreedGeneratorIsOffered := by
  refine ⟨fun s r d htakes hparams hact => ⟨fun g hattached honly => ?own, fun g o hattached honly hother => ?other,
      fun hnone => ?none⟩,
    fun s r d htakes hparams hact => ?notMayAct,
    fun s g => ⟨fun b i j js hb hqueue hstage hmarks hoff hbefore => ?offered, offer_none⟩,
    fun s p => ⟨s.detachWhere p, rfl, fun g => ?detached, rfl⟩⟩
  case own =>
    have hon := genOn_eq_some_of hattached honly
    have howned : (s.gen g).ownedBy (.port r.port) = true := by simp [Generator.ownedBy, hattached]
    have hfreed : s.detachAndOffer (fun x => x.on d) = (s.setGen g { s.gen g with attached := none }).offer g := by
      refine detachAndOffer_only ?_ fun h hh => ?_
      · rw [hattached, genOn_eq_some hon]
        rfl
      · rw [Bool.and_eq_true] at hh
        obtain ⟨a, ha, had⟩ := on_iff.mp hh.2
        exact honly h a ha had
    have hbody : requestBody .untrace r s =
        ((s.setGen g { s.gen g with attached := none }).offer g, ⟨.ok, [byteOf g.val]⟩) := by
      simp only [requestBody, untraceBody, hparams, parseDrop_byteOf, withParams_some, hon, claimCheck_of_mayAct hact, howned,
        hfreed]
      rfl
    refine ⟨exec_untrace htakes hbody, fun hidle => ?_⟩
    have hsame := offer_none (s := s.setGen g { s.gen g with attached := none }) (g := g) fun b =>
      bindingWait_ne_eligible (hidle b)
    rw [exec_untrace htakes hbody, hsame]
  case other =>
    have hon := genOn_eq_some_of hattached honly
    have hnot : (s.gen g).ownedBy (.port r.port) = false := by simp [Generator.ownedBy, hattached, hother]
    refine exec_untrace htakes ?_
    simp only [requestBody, untraceBody, hparams, parseDrop_byteOf, withParams_some, hon, claimCheck_of_mayAct hact, hnot]
    rfl
  case none =>
    have hoff : s.genOn d = none := genOn_eq_none_iff.mpr hnone
    refine exec_untrace htakes ?_
    simp only [requestBody, untraceBody, hparams, parseDrop_byteOf, withParams_some, hoff, claimCheck_of_mayAct hact]
    rfl
  case notMayAct =>
    refine exec_untrace htakes (a := .just (if r.port = .uplink then .claimed else .notClaimed)) ?_
    simp only [requestBody, untraceBody, hparams, parseDrop_byteOf, withParams_some, claimCheck_of_not_mayAct hact]
    cases s.genOn d <;> rfl
  case offered =>
    have hwait : s.bindingWait b = some .eligible := by
      rw [bindingWait_waiting hqueue hstage hmarks, hoff]
      rfl
    have hturn : ((turnAfter s.lastServed).find? fun b => s.bindingWait b = some .eligible) = some b := by
      rw [hb] at hwait ⊢
      exact turnAfter_find i (decide_eq_true hwait) fun k hk => decide_eq_false (hbefore k hk)
    rw [State.offer, hturn]
    exact giveGenerator_eq hqueue g
  case detached =>
    rw [detachWhere_gen]
    cases hattached : (s.gen g).attached with
    | none =>
      have hsame : { s.gen g with attached := none } = s.gen g := by rw [← hattached]
      rw [hsame, ite_self]
      rfl
    | some a => rfl

end Sys2Proof.Machine

/-! PROOFS. The first PRESENCE burst of an entry that waits in ADMIT (R65, R126, R129). -/

namespace Sys2Proof.Machine

/-- A state with one more event raised where the test holds. -/
def State.raiseWhen (s : State) (p : Prop) [Decidable p] (e : Event) : State := if p then s.raise e else s

theorem raiseWhen_frame (s : State) (p : Prop) [Decidable p] (e : Event) :
    s.raiseWhen p e = { s with ports := (s.raiseWhen p e).ports } := by
  unfold State.raiseWhen
  split <;> rfl

theorem raiseWhen_port (s : State) (p : Prop) [Decidable p] (e : Event) (q : Port) :
    (s.raiseWhen p e).port q = { s.port q with events := (s.port q).events ||| if p then e.bit else 0 } := by
  unfold State.raiseWhen
  split
  · exact State.raise_port ..
  · simp

section
variable {s : State} {d : Drop} {j : Job}

theorem takePresence_ranging (raw : Nat) (hstate : (s.entry d).state = .ranging) (hjob : s.jobOf d = some j) :
    s.takePresence d raw = s.completeAdmit d j raw := by
  simp only [State.takePresence, hstate, hjob]

/-- The entry that its first PRESENCE burst makes ACTIVE, before the job's result. -/
def State.admittedEntry (s : State) (d : Drop) (raw : Nat) : Entry :=
  { s.entry d with
    state := .active, rejoinPending := false, lastLevel := some (s.levelOf d raw)
    levelDrift := decide (s.levelOf d raw < s.settings.acceptLow ∨ s.settings.acceptHigh < s.levelOf d raw)
    presence := some ⟨0, 0, s.settings.divisor, s.settings.silenceLimit, false, false⟩ }

theorem completeAdmit_eq (raw : Nat) (hstate : (s.entry d).state = .ranging) : s.completeAdmit d j raw =
    ((s.setEntry d (s.admittedEntry d raw)).raiseWhen ((s.levelOf d raw < s.settings.acceptLow ∨
      s.settings.acceptHigh < s.levelOf d raw) ∧ (s.entry d).levelDrift = false) .levelDrift).endJob j
        { s.admittedEntry d raw with lastResult := .done } (some .jobDone) := by
  have hactive : (s.entry d).enter .active = { s.entry d with state := .active, rejoinPending := false } :=
    enter_active (by rw [hstate]; decide)
  have hlevel (e : Entry) (hsource : e.offsetSource = (s.entry d).offsetSource)
      (hoffset : e.workingOffset = (s.entry d).workingOffset) : (s.setEntry d e).levelOf d raw = s.levelOf d raw :=
    levelOf_setEntry raw hsource hoffset
  have hjudged := presenceActive_eq (s := s.setEntry d { (s.entry d).enter .active with
    presence := some (.fresh s.settings) }) (d := d) raw (by rw [State.setEntry_entry_same])
  dsimp only at hjudged
  rw [State.setEntry_entry_same, setEntry_setEntry, hlevel _ (by rw [hactive]) (by rw [hactive])] at hjudged
  rw [State.completeAdmit, hjudged, hactive]
  have hentry (p : Prop) [Decidable p] (u : State) (e : Event) : (if p then u.raise e else u).entry d = u.entry d := by
    split <;> rfl
  rw [hentry, State.setEntry_entry_same]
  simp only [decide_eq_true_eq]
  rfl

/-- Settles O44. -/
theorem firstPresenceCompletesAdmission : Obligations.FirstPresenceCompletesAdmission := by
  intro s d j raw hinv hjob hstage t level
  obtain ⟨hmem, hdrop⟩ := mem_of_jobOf hjob
  subst hdrop
  obtain ⟨hcore, -, -⟩ := jobInv_iff.mp hinv
  obtain ⟨-, hranging, -⟩ := state_of_job hinv hjob
  have hstate := hranging (.inr hstage)
  have ht : t = _ := (takePresence_ranging raw hstate hjob).trans (completeAdmit_eq raw hstate)
  generalize hu : (s.setEntry j.drop (s.admittedEntry j.drop raw)).raiseWhen ((level < s.settings.acceptLow ∨
    s.settings.acceptHigh < level) ∧ (s.entry j.drop).levelDrift = false) .levelDrift = u at ht
  have hframe : u = { s with roster := u.roster, ports := u.ports } := by
    rw [← hu, raiseWhen_frame]
    rfl
  have hqueues (c : Branch) (k : Job) (hk : k ∈ u.queue c) : k.drop.branch = c := by
    rw [hframe] at hk
    exact (hcore.queues c).own k hk
  obtain ⟨hidle, hentry, -⟩ := endJob_drop (j := j) (e := { s.admittedEntry j.drop raw with lastResult := .done })
    (some .jobDone) hqueues rfl
  rw [← ht] at hidle hentry
  refine ⟨jobOf_of_idle hidle, hentry, fun p => ?_, ?_⟩
  · rw [ht, endJob_port, ← hu, raiseWhen_port]
    simp only [Option.elim, PortRecord.raise, BitVec.or_assoc, BitVec.or_comm Event.jobDone.bit]
    rfl
  · have hlast := endJob_frame u j { s.admittedEntry j.drop raw with lastResult := .done } (some .jobDone)
    rw [← ht, hframe] at hlast
    exact hlast

end

end Sys2Proof.Machine

/-! PROOFS. A hello from a bound serial on its own branch: the rejoin request and the abandoned job (R32, R33, R68, R101). -/

namespace Sys2Proof.Machine

/-- The start of a head touches the entry of a REJOIN job alone, which becomes RANGING (R39). -/
theorem startHead_entry (s : State) (b : Branch) (d : Drop) : (s.startHead b).entry d = s.entry d ∨
    ∃ j js, s.queue b = j :: js ∧ j.drop = d ∧ s.mode = .live ∧ j.stage = .waiting ∧ j.kind = .rejoin ∧
      (s.startHead b).entry d = (s.entry d).enter .ranging := by
  rcases startHead_cases s b with h | ⟨j, js, -, -, -, -, h⟩ | ⟨j, js, hqueue, hlive, hstage, hkind, h⟩ <;> rw [h]
  · exact .inl rfl
  · left
    rw [(traceWork_requestGenerator _ b).frame]
    rfl
  · rw [State.setEntry_entry]
    split
    next hd =>
      subst hd
      exact .inr ⟨j, js, hqueue, rfl, hlive, hstage, hkind, rfl⟩
    next => exact .inl rfl

theorem enter_ranging_clear {e : Entry} (h : e.rejoinPending = false) : (e.enter .ranging).rejoinPending = false := by
  by_cases hne : e.state = .ranging
  · rw [enter_same hne, h]
  · rw [enter_ranging hne]

/-- A pending flag stands while its drop is not the head of the branch that proceeds. -/
theorem proceed_pending {s : State} {b : Branch} {d : Drop}
    (hclear : ∀ j ∈ s.queue b, j.drop = d → (s.entry d).rejoinPending = false) :
    ((s.proceed b).entry d).rejoinPending = (s.entry d).rejoinPending := by
  rw [State.proceed, grant_entry]
  rcases startHead_entry s b d with h | ⟨j, js, hqueue, hdrop, -, -, -, h⟩ <;> rw [h]
  have hflag := hclear j (by rw [hqueue]; exact List.mem_cons_self ..) hdrop
  rw [enter_ranging_clear hflag, hflag]

section
variable {s : State} {d : Drop} {r : Report} {j : Job}

theorem takeHello_own (hholder : s.holderOf r.serial = some d) : s.takeHello d.branch r = s.helloOwnBranch d := by
  simp only [State.takeHello, hholder, if_true]

theorem takeHello_moved {b : Branch} (hholder : s.holderOf r.serial = some d) (hb : d.branch ≠ b) :
    s.takeHello b r = (s.moveEntry d).addArrival b r := by
  simp only [State.takeHello, hholder, if_neg hb]

theorem helloOwnBranch_heard (hstate : (s.entry d).state = .active ∨ (s.entry d).state = .silent) :
    s.helloOwnBranch d = (s.setEntry d (s.entry d).boundAgain).rejoinRequest d := by
  have hne : (s.entry d).state ≠ .bound := by rcases hstate with h | h <;> rw [h] <;> decide
  rw [← enter_bound hne]
  rcases hstate with h | h <;> simp only [State.helloOwnBranch, h]

theorem helloOwnBranch_bound (hstate : (s.entry d).state = .bound) (hjob : s.jobOf d = none) :
    s.helloOwnBranch d = s.rejoinRequest d := by simp only [State.helloOwnBranch, hstate, hjob]

theorem helloOwnBranch_queued (hstate : (s.entry d).state = .bound) (hjob : s.jobOf d ≠ none) : s.helloOwnBranch d = s := by
  obtain ⟨k, hk⟩ := Option.ne_none_iff_exists'.mp hjob
  simp only [State.helloOwnBranch, hstate, hk]

theorem helloOwnBranch_ranging (hstate : (s.entry d).state = .ranging) (hjob : s.jobOf d = some j) :
    s.helloOwnBranch d = s.abandonJob j := by simp only [State.helloOwnBranch, hstate, hjob]

theorem rejoinRequest_queued (hopen : s.intakeOpen = true) (hroom : (s.queue d.branch).length < 6) :
    s.rejoinRequest d = (s.appendJob d .rejoin .roster).proceed d.branch := if_pos ⟨hopen, hroom⟩

theorem rejoinRequest_put_off (hclosed : s.intakeOpen = false ∨ 6 ≤ (s.queue d.branch).length) : s.rejoinRequest d =
    if (s.entry d).rejoinPending then s
    else (s.setEntry d { s.entry d with rejoinPending := true }).raise .rejoinWaiting := by
  refine if_neg fun h => ?_
  obtain ⟨hopen, hroom⟩ := h
  rcases hclosed with hclosed | hfull
  · rw [hopen] at hclosed
    cases hclosed
  · exact absurd hroom (Nat.not_lt.mpr hfull)

/-- The state after the departure of an abandoned job, before its drop's REJOIN job joins. -/
def State.abandoned (s : State) (j : Job) : State :=
  (s.dropJob j { (s.entry j.drop).boundAgain with lastResult := .held }).raise .jobFailed

theorem abandonJob_eq (hstate : (s.entry j.drop).state = .ranging) :
    s.abandonJob j = ((s.abandoned j).appendJob j.drop .rejoin .roster).proceed j.drop.branch := by
  rw [State.abandonJob, enter_bound (by rw [hstate]; decide)]
  rfl

theorem abandoned_queue : (s.abandoned j).queue j.drop.branch = (s.queue j.drop.branch).filter fun k => k.drop ≠ j.drop :=
  dropJob_queue s j _

theorem abandoned_entry (e : Drop) : (s.abandoned j).entry e =
    if j.drop = e then { (s.entry j.drop).boundAgain with lastResult := .held } else s.entry e := dropJob_entry s j _ e

/-- The pending flags of other drops stand while a job is abandoned (R33). -/
theorem abandonJob_pending (hinv : s.JobInv) (hstate : (s.entry j.drop).state = .ranging) (hne : d ≠ j.drop) :
    ((s.abandonJob j).entry d).rejoinPending = (s.entry d).rejoinPending := by
  obtain ⟨hcore, -, -⟩ := jobInv_iff.mp hinv
  have hsame : ((s.abandoned j).appendJob j.drop .rejoin .roster).entry d = s.entry d := by
    change (s.abandoned j).entry d = _
    rw [abandoned_entry, if_neg hne.symm]
  rw [abandonJob_eq hstate, proceed_pending, hsame]
  intro k hk hdrop
  rw [appendJob_queue, if_pos rfl, abandoned_queue] at hk
  rw [hsame]
  rcases List.mem_append.mp hk with hk | hk
  · have hmem := List.mem_of_mem_filter hk
    have hbranch := (hcore.queues _).own k hmem
    obtain ⟨-, -, hclear⟩ := state_of_job hinv (jobOf_of_mem hcore (by rwa [hbranch]))
    rw [← hdrop, hclear]
  · rw [List.mem_singleton.mp hk] at hdrop
    exact absurd hdrop.symm hne

end

/-- Settles O39. -/
theorem helloOfBoundTerminalAsksForRejoin : Obligations.HelloOfBoundTerminalAsksForRejoin := by
  refine ⟨fun s d r hholder => ⟨fun h => (takeHello_own hholder).trans (helloOwnBranch_heard h),
      fun hstate hjob => (takeHello_own hholder).trans (helloOwnBranch_bound hstate hjob),
      fun hstate hjob => (takeHello_own hholder).trans (helloOwnBranch_queued hstate hjob),
      fun j hstate hjob => (takeHello_own hholder).trans (helloOwnBranch_ranging hstate hjob)⟩,
    fun s d => ⟨rejoinRequest_queued, fun hclosed => ⟨fun hflag => ?flagged, fun hflag => ?clear⟩⟩,
    fun s j hinv hjob hstate => ?abandoned⟩
  case flagged => rw [rejoinRequest_put_off hclosed, if_pos hflag]
  case clear => rw [rejoinRequest_put_off hclosed, if_neg (by rw [hflag]; exact Bool.false_ne_true)]
  case abandoned =>
    intro b u
    obtain ⟨hcore, -, -⟩ := jobInv_iff.mp hinv
    obtain ⟨hmem, -⟩ := mem_of_jobOf hjob
    have hqueue : u.queue b = (s.queue b).filter fun k => k.drop ≠ j.drop := abandoned_queue
    refine ⟨abandonJob_eq hstate, hqueue, ?_, (abandoned_entry _).trans (if_pos rfl),
      fun d hd => (abandoned_entry d).trans (if_neg hd.symm), fun p => ?_, fun d hd => abandonJob_pending hinv hstate hd⟩
    · rw [hqueue]
      exact length_filter_drop (hcore.queues _) hmem
    · rw [State.raise_port, (jobWork_dropJob _ _ _).port]

end Sys2Proof.Machine

/-! PROOFS. A hello from a serial bound on another branch (R100, R102). -/

namespace Sys2Proof.Machine

/-! Events that a port shows -/

/-- The event is in the port's event word. -/
def PortRecord.Shows (p : PortRecord) (e : Event) : Prop := p.events &&& e.bit ≠ 0

theorem shows_raise_same (p : PortRecord) (e : Event) : (p.raise e).Shows e := by
  rw [PortRecord.Shows, and_eventBit_ne_zero, raise_events_getLsbD, decide_eq_true rfl, Bool.or_true]

theorem PortRecord.Shows.raise {p : PortRecord} {e : Event} (h : p.Shows e) (f : Event) : (p.raise f).Shows e := by
  rw [PortRecord.Shows, and_eventBit_ne_zero] at *
  rw [raise_events_getLsbD, h]
  rfl

theorem PortRecord.Shows.either {p : PortRecord} {e f : Event} (h : p.Shows e ∨ p.Shows f) :
    p.events &&& (e.bit ||| f.bit) ≠ 0 := by
  intro hzero
  rw [BitVec.and_or_distrib_left] at hzero
  obtain ⟨he, hf⟩ := BitVec.or_eq_zero_iff.mp hzero
  exact h.elim (· he) (· hf)

/-! The entry that is moved -/

theorem idle_of_jobOf {s : State} (hqueues : ∀ c, ∀ k ∈ s.queue c, k.drop.branch = c) {d : Drop} (h : s.jobOf d = none) :
    Idle d s := by
  intro c k hk hdrop
  have hc := hqueues c k hk
  rw [hdrop] at hc
  subst hc
  simpa [hdrop] using List.find?_eq_none.mp h k hk

section
variable {s : State} {d : Drop} {r : Report} {b : Branch}

theorem moveEntry_job {j : Job} (hjob : s.jobOf d = some j) : s.moveEntry d =
    (s.endJob j (((s.entry d).enter .blocked).result .moved) (some .jobFailed)).raise .moved := by
  simp only [State.moveEntry, hjob]

theorem moveEntry_none (hjob : s.jobOf d = none) : s.moveEntry d =
    (s.setEntry d (((s.entry d).enter .blocked).result .moved)).raise .moved := by
  simp only [State.moveEntry, hjob]

theorem moveEntry_frame (s : State) (d : Drop) : s.moveEntry d = { s with
    branches := (s.moveEntry d).branches, lanes := (s.moveEntry d).lanes, roster := (s.moveEntry d).roster
    generators := (s.moveEntry d).generators, lastServed := (s.moveEntry d).lastServed
    ports := (s.moveEntry d).ports } := by
  cases hjob : s.jobOf d with
  | none =>
    rw [moveEntry_none hjob]
    rfl
  | some j =>
    rw [moveEntry_job hjob]
    have hframe := endJob_frame s j (((s.entry d).enter .blocked).result .moved) (some .jobFailed)
    generalize s.endJob j _ _ = u at *
    rw [hframe]
    rfl

/-- The moved entry is BLOCKED and without a job, whatever starts after it. -/
theorem moveEntry_entry (hcore : JobCore s) (hstate : (s.entry d).state ≠ .blocked) :
    (s.moveEntry d).entry d = { (s.entry d).unbound .blocked with lastResult := .moved } ∧ Idle d (s.moveEntry d) := by
  have hqueues (c : Branch) (k : Job) (hk : k ∈ s.queue c) : k.drop.branch = c := (hcore.queues c).own k hk
  have hentry : ((s.entry d).enter .blocked).result .moved = { (s.entry d).unbound .blocked with lastResult := .moved } := by
    rw [enter_blocked hstate]
    rfl
  cases hjob : s.jobOf d with
  | none =>
    rw [moveEntry_none hjob, hentry]
    exact ⟨State.setEntry_entry_same .., idle_of_jobOf hqueues hjob⟩
  | some j =>
    obtain ⟨-, hdrop⟩ := mem_of_jobOf hjob
    subst hdrop
    rw [moveEntry_job hjob, hentry]
    obtain ⟨hidle, hends, -⟩ := endJob_drop (j := j) (e := { (s.entry j.drop).unbound .blocked with lastResult := .moved })
      (some .jobFailed) hqueues rfl
    generalize s.endJob j _ _ = u at *
    exact ⟨hends, hidle⟩

theorem moveEntry_shows (s : State) (d : Drop) (p : Port) : ((s.moveEntry d).port p).Shows .moved ∧
    (s.jobOf d ≠ none → ((s.moveEntry d).port p).Shows .jobFailed) := by
  cases hjob : s.jobOf d with
  | none =>
    rw [moveEntry_none hjob, State.raise_port]
    exact ⟨shows_raise_same _ _, fun h => absurd rfl h⟩
  | some j =>
    rw [moveEntry_job hjob, State.raise_port, endJob_port]
    exact ⟨shows_raise_same _ _, fun _ => (shows_raise_same _ _).raise _⟩

/-! The arrival -/

theorem addArrival_cases (hfree : ∀ c, ∀ a ∈ (s.arrivalsOf c).items, a.serial ≠ r.serial) :
    ((s.arrivalsOf b).items.length < 8 ∧ s.addArrival b r = (s.setArrivals b { s.arrivalsOf b with
      items := (s.arrivalsOf b).items ++ [Arrival.fresh s.settings r] }).raise .arrival) ∨
    (8 ≤ (s.arrivalsOf b).items.length ∧ s.addArrival b r = (s.setArrivals b { s.arrivalsOf b with
      missed := satInc (s.arrivalsOf b).missed }).raise .arrivalsFull) := by
  rcases Nat.lt_or_ge (s.arrivalsOf b).items.length 8 with hroom | hfull
  · exact .inl ⟨hroom, by rw [addArrival_room (hfree b) hroom, unlist_of_unlisted hfree]⟩
  · exact .inr ⟨hfull, by rw [addArrival_full (hfree b) hfull, unlist_of_unlisted hfree]⟩

theorem fresh_eq (st : Settings) (r : Report) : Arrival.fresh st r = ⟨r.serial, r.tag, r.rawLevel,
    if r.observation = 0 then none else some r.observation, 0, 1,
    decide (r.tag ≠ 0 ∧ st.providers &&& (1#8 <<< r.tag.toNat) = 0)⟩ := by
  rw [Arrival.fresh, tagOff_eq]
  rfl

/-! The laws of the serials -/

theorem serialInv_bears (h : s.SerialInv) (d : Drop) : (s.entry d).serial.isSome = (s.entry d).state.bearsSerial := h.1 d

theorem serialInv_apart (h : s.SerialInv) {d e : Drop} (hne : d ≠ e) (hsome : (s.entry d).serial.isSome = true) :
    (s.entry d).serial ≠ (s.entry e).serial := h.2.1 d e hne hsome

theorem mem_allArrivals {a : Arrival} : a ∈ s.allArrivals ↔ ∃ b, a ∈ (s.arrivalsOf b).items := by
  simp [State.allArrivals, allBranches]

theorem serialInv_unlisted (h : s.SerialInv) {n : Serial} (hserial : (s.entry d).serial = some n) (b : Branch) :
    ∀ a ∈ (s.arrivalsOf b).items, a.serial ≠ n := by
  obtain ⟨-, -, -, -, hfree, -⟩ := h
  intro a ha heq
  exact hfree a (mem_allArrivals.mpr ⟨b, ha⟩) d (by rw [hserial, heq])

end

/-- Settles O40. -/
theorem helloOnOtherBranchMovesEntry : Obligations.HelloOnOtherBranchMovesEntry := by
  intro s b d r hinv hserials hserial hb t
  obtain ⟨hcore, -, -⟩ := jobInv_iff.mp hinv
  have hsome : (s.entry d).serial.isSome = true := by rw [hserial]; rfl
  have hstate : (s.entry d).state ≠ .blocked := fun h => by
    rw [serialInv_bears hserials, h] at hsome
    cases hsome
  have hholder : s.holderOf r.serial = some d := holderOf_eq_some hserial fun e he heq =>
    serialInv_apart hserials he.symm hsome (hserial.trans heq.symm)
  have ht : t = (s.moveEntry d).addArrival b r := takeHello_moved hholder hb
  obtain ⟨hentry, hidle⟩ := moveEntry_entry hcore hstate
  have hshows := moveEntry_shows s d
  have hframe := moveEntry_frame s d
  have hlist (c : Branch) : (s.moveEntry d).arrivalsOf c = s.arrivalsOf c := by rw [hframe]; rfl
  have hfree (c : Branch) : ∀ a ∈ ((s.moveEntry d).arrivalsOf c).items, a.serial ≠ r.serial := by
    rw [hlist]
    exact serialInv_unlisted hserials hserial c
  have hsettings : (s.moveEntry d).settings = s.settings := by rw [hframe]
  have hcases := addArrival_cases (b := b) hfree
  rw [← ht, hlist, hsettings] at hcases
  generalize s.moveEntry d = u at *
  obtain ⟨l, e, hadded, hloud, hlisted⟩ : ∃ l e, t = (u.setArrivals b l).raise e ∧ (e = .arrival ∨ e = .arrivalsFull) ∧
      (((s.arrivalsOf b).items.length < 8 ∧ e = .arrival ∧ l = { s.arrivalsOf b with
        items := (s.arrivalsOf b).items ++ [Arrival.fresh s.settings r] }) ∨
      (8 ≤ (s.arrivalsOf b).items.length ∧ e = .arrivalsFull ∧ l = { s.arrivalsOf b with
        missed := satInc (s.arrivalsOf b).missed })) := by
    rcases hcases with ⟨hroom, h⟩ | ⟨hfull, h⟩
    · exact ⟨_, _, h, .inl rfl, .inl ⟨hroom, rfl, rfl⟩⟩
    · exact ⟨_, _, h, .inr rfl, .inr ⟨hfull, rfl, rfl⟩⟩
  clear hcases ht
  have hport (p : Port) : t.port p = (u.port p).raise e := by rw [hadded, State.raise_port]; rfl
  have harrivals (c : Branch) : t.arrivalsOf c = if b = c then l else s.arrivalsOf c := by
    rw [hadded, ← hlist]
    exact State.setArrivals_arrivalsOf ..
  have hloud' (p : Port) : (t.port p).Shows e := by rw [hport]; exact shows_raise_same _ _
  refine ⟨by rw [hadded]; exact hentry, ?_, fun p => ?_, fun hjob p => ?_, fun p => ?_, fun c hc => ?_,
    ⟨fun hroom => ?_, fun hfull => ?_⟩, ?_⟩
  · rw [hadded]
    exact jobOf_of_idle (s := u) hidle
  · rw [hport]
    exact (hshows p).1.raise e
  · rw [hport]
    exact ((hshows p).2 hjob).raise e
  · refine PortRecord.Shows.either (hloud.imp ?_ ?_) <;> exact fun he => he ▸ hloud' p
  · rw [harrivals, if_neg hc.symm]
  · rcases hlisted with ⟨-, he, hl⟩ | ⟨hno, -, -⟩
    · exact ⟨fun p => he ▸ hloud' p, by rw [harrivals, if_pos rfl, hl, fresh_eq]⟩
    · omega
  · rcases hlisted with ⟨hno, -, -⟩ | ⟨-, he, hl⟩
    · omega
    · exact ⟨fun p => he ▸ hloud' p, by rw [harrivals, if_pos rfl, hl]; rfl⟩
  · rw [hadded, hframe]
    rfl

end Sys2Proof.Machine

/-! PROOFS. SET_MODE and the filling of the queues (R34, R49, R146). -/

namespace Sys2Proof.Machine

/-! Work branch by branch -/

/-- The two states agree at a branch, its lane and the entries of its drops. -/
structure SameAt (b : Branch) (s t : State) : Prop where
  branch : t.branch b = s.branch b
  lane : t.lane b = s.lane b
  entry : ∀ d : Drop, d.branch = b → t.entry d = s.entry d

theorem SameAt.refl (b : Branch) (s : State) : SameAt b s s := ⟨rfl, rfl, fun _ _ => rfl⟩

theorem SameAt.trans {b : Branch} {s t u : State} (hst : SameAt b s t) (htu : SameAt b t u) : SameAt b s u where
  branch := htu.branch.trans hst.branch
  lane := htu.lane.trans hst.lane
  entry d hd := (htu.entry d hd).trans (hst.entry d hd)

theorem SameAt.queue {b : Branch} {s t : State} (h : SameAt b s t) : t.queue b = s.queue b := congrArg BranchCtl.queue h.branch

/-- A predicate that every step of the work keeps holds at its end. -/
theorem foldl_keeps {α : Type} {f : State → α → State} {P : State → Prop} (hstep : ∀ u a, P u → P (f u a)) (l : List α)
    {s : State} (hs : P s) : P (l.foldl f s) := by
  induction l generalizing s with
  | nil => exact hs
  | cons a l ih => exact ih (hstep s a hs)

/-- Where the work on each branch leaves what is seen of the others, the end shows of a branch what its own work made of
it. -/
theorem foldl_seen {f : State → Branch → State} {P : State → Prop} {b : Branch} {E : State → State → Prop}
    (hrefl : ∀ u, E u u) (htrans : ∀ {u v w}, E u v → E v w → E u w) (hstep : ∀ u c, P u → P (f u c))
    (hothers : ∀ u c, P u → b ≠ c → E u (f u c)) {l : List Branch} (hl : l.Nodup) (hb : b ∈ l)
    {s : State} (hs : P s) : ∃ u, P u ∧ E s u ∧ E (f u b) (l.foldl f s) := by
  have hkept (l : List Branch) (hnot : b ∉ l) (s : State) (hs : P s) : E s (l.foldl f s) := by
    induction l generalizing s with
    | nil => exact hrefl s
    | cons c l ih =>
      rw [List.mem_cons, not_or] at hnot
      exact htrans (hothers s c hs hnot.1) (ih hnot.2 _ (hstep s c hs))
  obtain ⟨l1, l2, rfl⟩ := List.append_of_mem hb
  obtain ⟨-, hl2, hdisjoint⟩ := List.nodup_append.mp hl
  have hbefore : b ∉ l1 := fun h => hdisjoint b h b (List.mem_cons_self ..) rfl
  have hmid : P (l1.foldl f s) := foldl_keeps hstep l1 hs
  rw [List.foldl_append, List.foldl_cons]
  exact ⟨_, hmid, hkept l1 hbefore s hs, hkept l2 (List.nodup_cons.mp hl2).1 _ (hstep _ b hmid)⟩

/-! The filling of one queue (R34) -/

/-- The job that a pending drop gets. -/
def rejoinJob (d : Drop) : Job := ⟨d, .rejoin, .waiting, .roster, 0⟩

/-- The pending drops of a branch for which its queue has room, lowest first. -/
def State.fillers (s : State) (b : Branch) : List Drop := (s.pendingDrops b).take (6 - (s.queue b).length)

/-- A state in which these drops of one branch have got their jobs. -/
structure Filled (b : Branch) (ds : List Drop) (s t : State) : Prop where
  frame : t = { s with branches := t.branches, roster := t.roster }
  branch : t.branch b = { s.branch b with queue := s.queue b ++ ds.map rejoinJob }
  others : ∀ c, c ≠ b → t.branch c = s.branch c
  entry : ∀ d, t.entry d = if d ∈ ds then { s.entry d with rejoinPending := false } else s.entry d

theorem filled_queuePending (s : State) (d : Drop) : Filled d.branch [d] s (s.queuePending d) where
  frame := rfl
  branch := by
    rw [queuePending_eq]
    exact State.setBranch_branch_same ..
  others c hc := by
    rw [queuePending_eq]
    exact State.setBranch_branch_ne _ _ _ _ hc.symm
  entry e := by
    rw [queuePending_eq, State.setEntry_entry]
    by_cases h : d = e
    · rw [if_pos h, if_pos (by simp [h]), h]
    · rw [if_neg h, if_neg (by simpa using Ne.symm h)]
      rfl

theorem Filled.append {b : Branch} {ds es : List Drop} {s t u : State} (hst : Filled b ds s t) (htu : Filled b es t u) :
    Filled b (ds ++ es) s u where
  frame := by
    rw [htu.frame, hst.frame]
  branch := by
    rw [htu.branch, State.queue, hst.branch, List.map_append, List.append_assoc]
  others c hc := (htu.others c hc).trans (hst.others c hc)
  entry d := by
    rw [htu.entry, hst.entry]
    by_cases hd : d ∈ ds <;> by_cases he : d ∈ es <;> simp [hd, he]

theorem filled_foldl {b : Branch} {ds : List Drop} (hds : ∀ d ∈ ds, Drop.branch d = b) (s : State) :
    Filled b ds s (ds.foldl (fun t d => t.queuePending d) s) := by
  induction ds generalizing s with
  | nil => exact ⟨rfl, by rw [List.map_nil, List.append_nil]; rfl, fun _ _ => rfl, fun _ => rfl⟩
  | cons d ds ih =>
    have hd : Drop.branch d = b := hds d (List.mem_cons_self ..)
    exact (hd ▸ filled_queuePending s d).append (ih (fun e he => hds e (List.mem_cons_of_mem _ he)) _)

theorem mem_fillers {s : State} {b : Branch} {d : Drop} (h : d ∈ s.fillers b) :
    d.branch = b ∧ (s.entry d).rejoinPending = true := mem_pendingDrops.mp (List.mem_of_mem_take h)

theorem filled_fill (s : State) (b : Branch) : Filled b (s.fillers b) s (s.fill b) :=
  filled_foldl (fun _ hd => (mem_fillers hd).1) s

theorem sameAt_fill (s : State) {b c : Branch} (hne : b ≠ c) : SameAt b s (s.fill c) where
  branch := (filled_fill s c).others b hne
  lane := by
    rw [(filled_fill s c).frame]
    rfl
  entry d hd := by
    rw [(filled_fill s c).entry, if_neg]
    intro h
    exact hne (hd.symm.trans (mem_fillers h).1)

theorem SameAt.fillers {b : Branch} {s t : State} (h : SameAt b s t) : t.fillers b = s.fillers b := by
  have hpending : t.pendingDrops b = s.pendingDrops b := List.filter_congr fun d hd => by
    rw [h.entry d (by simpa using (List.mem_filter.mp hd).2)]
  rw [State.fillers, State.fillers, hpending, h.queue]

/-! The filling of every queue -/

theorem fillAll_at (s : State) (b : Branch) : s.fillAll.queue b = s.queue b ++ (s.fillers b).map rejoinJob ∧
    ∀ d : Drop, d.branch = b → s.fillAll.entry d =
      if d ∈ s.fillers b then { s.entry d with rejoinPending := false } else s.entry d := by
  obtain ⟨u, -, hbefore, hafter⟩ := foldl_seen (f := fun t b => t.fill b) (P := fun _ => True) (.refl b) .trans
    (fun _ _ h => h) (fun u c _ hne => sameAt_fill u hne) nodup_allBranches (mem_allBranches b) (s := s) trivial
  have hfilled := filled_fill u b
  rw [hbefore.fillers] at hfilled
  refine ⟨?_, fun d hd => ?_⟩
  · rw [State.fillAll, hafter.queue, State.queue, hfilled.branch, hbefore.queue]
  · rw [State.fillAll, hafter.entry d hd, hfilled.entry, hbefore.entry d hd]

/-- Work on the branches and entries alone is no more than that when it is done for each branch. -/
theorem foldl_frame {f : State → Branch → State}
    (h : ∀ u c, f u c = { u with branches := (f u c).branches, roster := (f u c).roster }) (l : List Branch) (s : State) :
    l.foldl f s = { s with branches := (l.foldl f s).branches, roster := (l.foldl f s).roster } := by
  induction l generalizing s with
  | nil => rfl
  | cons c l ih =>
    rw [List.foldl_cons]
    have hfirst := h s c
    have hrest := ih (f s c)
    generalize l.foldl f (f s c) = v at hrest ⊢
    generalize f s c = u at hfirst hrest
    rw [hrest, hfirst]

theorem fillAll_frame (s : State) : s.fillAll = { s with branches := s.fillAll.branches, roster := s.fillAll.roster } :=
  foldl_frame (fun u c => (filled_fill u c).frame) allBranches s

/-! The start of every head -/

theorem headWork_foldl {α : Type} {f : State → α → State} (h : ∀ s a, HeadWork s (f s a)) (l : List α) (s : State) :
    HeadWork s (l.foldl f s) := foldl_keeps (fun u a hu => hu.trans (h u a)) l (.refl s)

theorem headWork_proceedAll (s : State) : HeadWork s s.proceedAll :=
  (headWork_foldl headWork_startHead _ s).trans (headWork_foldl headWork_grant _ _)

/-- A clear pending flag stays clear while the heads start. -/
theorem proceedAll_clear (s : State) (d : Drop) (h : (s.entry d).rejoinPending = false) :
    (s.proceedAll.entry d).rejoinPending = false := by
  refine foldl_keeps (P := fun t : State => (t.entry d).rejoinPending = false) (fun u c hu => ?_) _
    (foldl_keeps (P := fun t : State => (t.entry d).rejoinPending = false) (fun u c hu => ?_) _ h)
  · rwa [grant_entry]
  · rcases startHead_entry u c d with hsame | ⟨j, js, -, -, -, -, -, hsame⟩ <;> rw [hsame]
    · exact hu
    · exact enter_ranging_clear hu

/-! SET_MODE -/

section
variable {s : State} {r : Request}

theorem exec_setMode {t : State} {a : Answer} (htakes : s.Takes r) (hport : r.port = .uplink)
    (hbody : requestBody .setMode r s = (t, a)) : exec (.setMode r) s = .next (t.respond r 0x20 a) := by
  refine exec_request_body (k := .setMode) rfl (by decide) (by decide) htakes ?_ hbody
  rw [hport]
  exact permits_uplink _ (by decide)

/-- The parameter that names a mode. -/
def RunMode.param : RunMode → Byte
  | .survey => 0
  | .live => 1

theorem parseMode_param (m : RunMode) : parseMode [m.param] = some m := by cases m <;> rfl

theorem inForce_eq_iff {m : RunMode} : s.inForce = m ↔ s.mode = m.mode ∨ (s.mode = .hold ∧ s.resume = m) := by
  unfold State.inForce
  cases s.mode <;> cases m <;> simp [RunMode.mode]

theorem anyJob_iff : s.anyJob = true ↔ ∃ b, s.queue b ≠ [] := by
  simp [State.anyJob, allBranches]

theorem setModeBody_again {m : RunMode} (hparams : r.params = [m.param]) (hforce : s.inForce = m) :
    requestBody .setMode r s = (s, .ok) := by
  simp only [requestBody, setModeBody, hparams, parseMode_param, withParams_some, hforce, if_true]

theorem setModeBody_change {m : RunMode} (hparams : r.params = [m.param]) (hforce : s.inForce ≠ m)
    (hfree : m = .survey → ∀ b, s.queue b = []) : requestBody .setMode r s = (s.changeMode m, .ok) := by
  have hno : ¬(m = .survey ∧ s.anyJob = true) := fun ⟨hm, hany⟩ => by
    obtain ⟨b, hb⟩ := anyJob_iff.mp hany
    exact hb (hfree hm b)
  simp only [requestBody, setModeBody, hparams, parseMode_param, withParams_some, if_neg hforce.symm, failIf, hno]
  rfl

theorem setModeBody_pending (hparams : r.params = [0]) (hforce : s.inForce ≠ .survey) (hjob : ∃ b, s.queue b ≠ []) :
    requestBody .setMode r s = (s, .just .jobPending) := by
  have hparse : parseMode r.params = some .survey := by rw [hparams]; rfl
  simp only [requestBody, setModeBody, hparse, withParams_some, if_neg hforce.symm, failIf, anyJob_iff.mpr hjob]
  rfl

theorem changeMode_live_hold (hmode : s.mode = .hold) : s.changeMode .live = { s with resume := .live }.fillAll := by
  have hput : s.putMode .live = { s with resume := .live } := by simp [State.putMode, hmode]
  rw [State.changeMode, hput]
  exact if_pos hmode

theorem changeMode_live_survey (hmode : s.mode = .survey) :
    s.changeMode .live = { s with mode := .live, resume := .live }.fillAll.proceedAll := by
  have hput : s.putMode .live = { s with mode := .live, resume := .live } := by simp [State.putMode, hmode, RunMode.mode]
  rw [State.changeMode, hput]
  exact if_neg (by rw [hmode]; decide)

theorem changeMode_survey (hmode : s.mode ≠ .hold) : s.changeMode .survey = { s with mode := .survey, resume := .survey } := by
  simp [State.changeMode, State.putMode, hmode, RunMode.mode]

theorem changeMode_survey_hold (hmode : s.mode = .hold) : s.changeMode .survey = { s with resume := .survey } := by
  simp [State.changeMode, State.putMode, hmode]

end

/-- The part goes LIVE: the queues are filled, and the heads start (R34, R49). -/
theorem changeMode_live_facts {s : State} (hmode : s.mode = .survey) : let t := s.changeMode .live
    t.mode = .live ∧ t.resume = .live ∧ JobWork { s with mode := .live, resume := .live } t ∧
    (∀ b, (t.queue b).map Job.drop = (s.queue b).map Job.drop ++ s.fillers b ∧
      ∀ d ∈ s.fillers b, (t.entry d).rejoinPending = false) ∧
    ((∀ b, s.queue b = []) → (∀ d, (s.entry d).rejoinPending = false) → t.roster = s.roster ∧ ∀ b, t.queue b = []) := by
  intro t
  have ht : t = { s with mode := .live, resume := .live }.fillAll.proceedAll := changeMode_live_survey hmode
  have hwork : JobWork { s with mode := .live, resume := .live } t := by
    rw [ht]
    exact (jobWork_fillAll _).trans (jobWork_proceedAll _)
  have hfill := fillAll_at { s with mode := .live, resume := .live }
  have hheads := headWork_proceedAll { s with mode := .live, resume := .live }.fillAll
  have hclear := proceedAll_clear { s with mode := .live, resume := .live }.fillAll
  rw [← ht] at hheads hclear
  generalize ({ s with mode := .live, resume := .live } : State).fillAll = u at hfill hheads hclear
  have hfilled (b : Branch) : u.queue b = s.queue b ++ (s.fillers b).map rejoinJob := (hfill b).1
  have hentry (d : Drop) : u.entry d =
      if d ∈ s.fillers d.branch then { s.entry d with rejoinPending := false } else s.entry d := (hfill d.branch).2 d rfl
  refine ⟨by rw [hwork], by rw [hwork], hwork, fun b => ⟨?_, fun d hd => hclear d ?_⟩, fun hempty hnone => ?_⟩
  · rw [hheads.drops, hfilled, List.map_append, List.map_map]
    have hdrops : (s.fillers b).map (Job.drop ∘ rejoinJob) = s.fillers b := List.map_id _
    rw [hdrops]
  · rw [hentry, if_pos (by rw [(mem_fillers hd).1]; exact hd)]
  · have hnofill (b : Branch) : s.fillers b = [] := List.eq_nil_iff_forall_not_mem.mpr fun d hd => by
      have hflag := (mem_fillers hd).2
      rw [hnone] at hflag
      cases hflag
    have hu (b : Branch) : u.queue b = [] := by rw [hfilled, hempty, hnofill]; rfl
    have hidle (d : Drop) : Idle d u := fun c k hk => by rw [hu] at hk; cases hk
    refine ⟨Vector.ext fun i hi => ?_, fun b => ?_⟩
    · change t.entry ⟨i, hi⟩ = s.entry ⟨i, hi⟩
      rw [hheads.entry _ (hidle _), hentry, hnofill, if_neg (by simp)]
    · have hdrops := hheads.drops b
      rw [hu, List.map_nil, List.map_eq_nil_iff] at hdrops
      exact hdrops

/-- Settles O31. -/
theorem setModeAndFill : Obligations.SetModeAndFill := by
  refine ⟨fun s r htakes hport => ⟨fun hparams hforce => ?liveAgain, fun hparams hforce => ?surveyAgain,
      fun hparams hmode hempty => ?survey, fun hparams hmode hresume hempty => ?surveyHold,
      fun hparams hforce hjob => ?pending, fun hparams hmode => ?live, fun hparams hmode hresume => ?liveHold⟩,
    fun s b => ⟨?queue, (filled_fill s b).entry, fun c hc => congrArg BranchCtl.queue ((filled_fill s b).others c hc)⟩,
    fun s => ⟨fun b => (fillAll_at s b).1, fun d => (fillAll_at s d.branch).2 d rfl, fillAll_frame s⟩⟩
  case queue => exact congrArg BranchCtl.queue (filled_fill s b).branch
  case liveAgain => exact exec_setMode htakes hport (setModeBody_again (m := .live) hparams (inForce_eq_iff.mpr hforce))
  case surveyAgain => exact exec_setMode htakes hport (setModeBody_again (m := .survey) hparams (inForce_eq_iff.mpr hforce))
  case survey =>
    have hforce : s.inForce = .live := inForce_eq_iff.mpr (.inl hmode)
    rw [exec_setMode htakes hport (setModeBody_change (m := .survey) hparams (by rw [hforce]; decide) fun _ => hempty),
      changeMode_survey (by rw [hmode]; decide)]
  case surveyHold =>
    have hforce : s.inForce = .live := inForce_eq_iff.mpr (.inr ⟨hmode, hresume⟩)
    rw [exec_setMode htakes hport (setModeBody_change (m := .survey) hparams (by rw [hforce]; decide) fun _ => hempty),
      changeMode_survey_hold hmode]
  case pending =>
    have hforce : s.inForce = .live := inForce_eq_iff.mpr hforce
    exact exec_setMode htakes hport (setModeBody_pending hparams (by rw [hforce]; decide) hjob)
  case liveHold =>
    have hforce : s.inForce = .survey := inForce_eq_iff.mpr (.inr ⟨hmode, hresume⟩)
    rw [exec_setMode htakes hport (setModeBody_change (m := .live) hparams (by rw [hforce]; decide) fun h => nomatch h),
      changeMode_live_hold hmode]
  case live =>
    have hforce : s.inForce = .survey := inForce_eq_iff.mpr (.inl hmode)
    have hexec := exec_setMode htakes hport
      (setModeBody_change (m := .live) hparams (by rw [hforce]; decide) fun h => nomatch h)
    obtain ⟨hlive, hresume, hwork, hqueues, hquiet⟩ := changeMode_live_facts hmode
    have hstarts : s.changeMode .live = { s with mode := .live, resume := .live }.fillAll.proceedAll :=
      changeMode_live_survey hmode
    have hserved : ({ s with mode := .live, resume := .live } : State).fillAll.lastServed = s.lastServed := by
      rw [fillAll_frame]
    generalize s.changeMode .live = t at *
    refine ⟨_, hexec, hlive, hresume, ?_, hquiet, ?_, hqueues, ?_⟩
    · rw [State.respond_port_same, hwork.port]
      rfl
    · rw [hstarts, State.proceedAll, turnAfter, hserved]
      rfl
    · rw [hwork]
      rfl

end Sys2Proof.Machine

/-! PROOFS. Entry into HOLD and the recovery from it (R47, R48, R117, R163, R164). -/

namespace Sys2Proof.Machine

/-- Every job stands in the queue of its drop's branch (R26). -/
def Own (s : State) : Prop := ∀ c, ∀ k ∈ s.queue c, k.drop.branch = c

theorem Own.of_drops {s t : State} (h : Own s) (hdrops : ∀ c, (t.queue c).map Job.drop = (s.queue c).map Job.drop) : Own t := by
  intro c k hk
  have hmem : k.drop ∈ (s.queue c).map Job.drop := hdrops c ▸ List.mem_map_of_mem hk
  obtain ⟨j, hj, hdrop⟩ := List.mem_map.mp hmem
  rw [← hdrop]
  exact h c j hj

theorem own_of_queueLaws {s : State} (h : s.QueueLaws) : Own s := fun c => (queueLaws_iff.mp h c).own

theorem Own.head {s : State} (h : Own s) {b : Branch} {j : Job} {js : List Job} (hqueue : s.queue b = j :: js) :
    j.drop.branch = b := h b j (by rw [hqueue]; exact List.mem_cons_self ..)

/-! The fall (R47) -/

section
variable (s : State) (b : Branch)

theorem holdBranch_branch : (s.holdBranch b).branch b = (s.branch b).onHold := by
  unfold State.holdBranch
  dsimp only
  split <;> rw [State.setBranch_branch_same]
  rfl

theorem holdBranch_branch_ne {c : Branch} (hne : c ≠ b) : (s.holdBranch b).branch c = s.branch c := by
  unfold State.holdBranch
  dsimp only
  split <;> rw [State.setBranch_branch_ne _ _ _ _ hne.symm]
  rfl

theorem holdBranch_frame : s.holdBranch b =
    { s with branches := (s.holdBranch b).branches, roster := (s.holdBranch b).roster } := by
  unfold State.holdBranch
  dsimp only
  split <;> rfl

/-- The entry of a drop on entry into HOLD, where this job is the head of its branch (R47). -/
def Entry.heldBy (e : Entry) (d : Drop) : Option Job → Entry
  | some j => if j.drop = d then e.onHold j.stage else e
  | none => e

theorem holdBranch_entry (d : Drop) : (s.holdBranch b).entry d = (s.entry d).heldBy d (s.queue b).head? := by
  cases hqueue : s.queue b with
  | nil => simp only [State.holdBranch, hqueue, State.setBranch_entry, List.head?_nil, Entry.heldBy]
  | cons j js =>
    simp only [State.holdBranch, hqueue, State.setBranch_entry, State.setEntry_entry, List.head?_cons, Entry.heldBy]
    split
    next h => rw [h]
    next => rfl

end

theorem heldBy_ne {e : Entry} {d : Drop} {j : Option Job} (h : ∀ k ∈ j, k.drop ≠ d) : e.heldBy d j = e := by
  cases j with
  | none => rfl
  | some k => exact if_neg (h k rfl)

theorem heldBy_head (e : Entry) (j : Job) : e.heldBy j.drop (some j) = e.onHold j.stage := if_pos rfl

theorem onHold_queue (c : BranchCtl) : c.onHold.queue = (c.queue.head?.map Job.onHold).toList ++ c.queue.tail := by
  unfold BranchCtl.onHold
  cases c.queue <;> rfl

theorem onHold_head (c : BranchCtl) : c.onHold.queue.head? = c.queue.head?.map Job.onHold := by
  unfold BranchCtl.onHold
  cases c.queue <;> rfl

theorem onHold_tail (c : BranchCtl) : c.onHold.queue.tail = c.queue.tail := by
  unfold BranchCtl.onHold
  cases c.queue <;> rfl

theorem job_onHold_drop (j : Job) : j.onHold.drop = j.drop := by
  unfold Job.onHold
  split <;> rfl

theorem onHold_drops (c : BranchCtl) : c.onHold.queue.map Job.drop = c.queue.map Job.drop := by
  unfold BranchCtl.onHold
  dsimp only
  split
  next j js hqueue => rw [hqueue, List.map_cons, List.map_cons, job_onHold_drop]
  next hqueue => rw [hqueue]

theorem holdBranch_own {s : State} (h : Own s) (b : Branch) : Own (s.holdBranch b) := by
  refine h.of_drops fun c => ?_
  by_cases hc : c = b
  · rw [hc, State.queue, holdBranch_branch, onHold_drops]
    rfl
  · rw [State.queue, holdBranch_branch_ne s b hc]
    rfl

theorem sameAt_holdBranch {s : State} (hown : Own s) {b c : Branch} (hne : b ≠ c) : SameAt b s (s.holdBranch c) where
  branch := holdBranch_branch_ne s c hne
  lane := by
    rw [holdBranch_frame]
    rfl
  entry d hd := by
    rw [holdBranch_entry]
    refine heldBy_ne fun k hk hdrop => hne ?_
    rw [← hd, ← hdrop, hown c k (List.mem_of_mem_head? hk)]

theorem detachWhere_branch (s : State) (p : Generator → Bool) (b : Branch) : (s.detachWhere p).branch b = s.branch b := rfl

theorem detachWhere_entry (s : State) (p : Generator → Bool) (d : Drop) : (s.detachWhere p).entry d = s.entry d := rfl

/-- Every branch and its head's entry on entry into HOLD (R47). -/
theorem heldBack_at {s : State} (hown : Own s) (b : Branch) : s.heldBack.branch b = (s.branch b).onHold ∧
    ∀ d : Drop, d.branch = b → s.heldBack.entry d = (s.entry d).heldBy d (s.queue b).head? := by
  obtain ⟨u, -, hbefore, hafter⟩ := foldl_seen (f := fun t b => t.holdBranch b) (P := Own) (.refl b) .trans
    (fun _ c h => holdBranch_own h c) (fun _ _ h hne => sameAt_holdBranch h hne) nodup_allBranches (mem_allBranches b) hown
  rw [State.heldBack]
  generalize allBranches.foldl (fun t b => t.holdBranch b) s = v at hafter ⊢
  refine ⟨?_, fun d hd => ?_⟩
  · rw [detachWhere_branch, hafter.branch, holdBranch_branch, hbefore.branch]
  · rw [detachWhere_entry, hafter.entry d hd, holdBranch_entry, hbefore.queue, hbefore.entry d hd]

theorem heldBack_frame (s : State) : s.heldBack =
    { s with branches := s.heldBack.branches, roster := s.heldBack.roster, generators := s.heldBack.generators } := by
  have hfold := foldl_frame holdBranch_frame allBranches s
  rw [State.heldBack]
  generalize allBranches.foldl (fun t b => t.holdBranch b) s = v at hfold ⊢
  have hdetached : v.detachWhere Generator.isBinding =
      { v with generators := (v.detachWhere Generator.isBinding).generators } := rfl
  generalize v.detachWhere Generator.isBinding = w at hdetached ⊢
  rw [hdetached, hfold]

theorem heldBack_gen (s : State) (g : Gen) (d : Drop) (b : Branch) : (s.heldBack.gen g).attached ≠ some (d, .binding b) := by
  rw [State.heldBack, detachWhere_gen]
  split
  · exact fun h => nomatch h
  next hkept =>
    intro h
    rw [h] at hkept
    simp [Generator.isBinding, h] at hkept

/-! The recovery (R48) -/

/-- The second state agrees with the first at the branch, gives no generator to its drops, and takes none back. -/
structure StartsElsewhere (b : Branch) (s t : State) : Prop extends SameAt b s t where
  gained : ∀ g a, (t.gen g).attached = some a → a.1.branch = b → (s.gen g).attached = some a
  held : ∀ g, (s.gen g).attached ≠ none → t.gen g = s.gen g

theorem StartsElsewhere.refl (b : Branch) (s : State) : StartsElsewhere b s s :=
  ⟨.refl b s, fun _ _ h _ => h, fun _ _ => rfl⟩

theorem StartsElsewhere.trans {b : Branch} {s t u : State} (hst : StartsElsewhere b s t) (htu : StartsElsewhere b t u) :
    StartsElsewhere b s u where
  toSameAt := hst.toSameAt.trans htu.toSameAt
  gained g a ha hb := hst.gained g a (htu.gained g a ha hb) hb
  held g hg := by
    have hsame := hst.held g hg
    rw [htu.held g (by rwa [hsame]), hsame]

theorem StartsElsewhere.of_gens {b : Branch} {s t : State} (h : SameAt b s t) (hgens : t.generators = s.generators) :
    StartsElsewhere b s t := by
  have hgen (g : Gen) : t.gen g = s.gen g := by rw [State.gen, hgens]; rfl
  exact ⟨h, fun g a ha _ => by rwa [hgen] at ha, fun g _ => hgen g⟩

theorem giveGenerator_gen {s : State} {b : Branch} {j : Job} {js : List Job} (hqueue : s.queue b = j :: js) (g h : Gen) :
    (s.giveGenerator b g).gen h = if g = h then ⟨some (j.drop, .binding b), bindingCode b, 12, .cleared⟩ else s.gen h := by
  rw [giveGenerator_eq hqueue]
  exact State.setGen_gen ..

theorem giveGenerator_branch {s : State} {b : Branch} {j : Job} {js : List Job} (hqueue : s.queue b = j :: js) (g : Gen)
    (c : Branch) : (s.giveGenerator b g).branch c =
      if b = c then { s.branch b with frameMarks := some 0 } else s.branch c := by
  rw [giveGenerator_eq hqueue]
  exact State.setBranch_branch ..

/-- The start of another branch's head is not seen at this one. -/
theorem startsElsewhere_startHead {s : State} (hown : Own s) {b c : Branch} (hne : b ≠ c) :
    StartsElsewhere b s (s.startHead c) := by
  have hhead (j : Job) (js : List Job) (k : Job) (hqueue : s.queue c = j :: js) : SameAt b s (s.setQueue c (k :: js)) :=
    ⟨State.setBranch_branch_ne _ _ _ _ hne.symm, rfl, fun _ _ => rfl⟩
  rcases startHead_cases s c with h | ⟨j, js, hqueue, -, -, -, h⟩ | ⟨j, js, hqueue, -, -, -, h⟩ <;> rw [h]
  · exact .refl b s
  · have hwaits : StartsElsewhere b s (s.setQueue c ({ j with stage := .waitTrace } :: js)) :=
      .of_gens (hhead j js _ hqueue) rfl
    refine hwaits.trans ?_
    have hqueue' : (s.setQueue c ({ j with stage := .waitTrace } :: js)).queue c = { j with stage := .waitTrace } :: js := by
      rw [State.setQueue_queue, if_pos rfl]
    generalize s.setQueue c _ = u at *
    rcases requestGenerator_cases u c with h | ⟨g, -, hfree, h⟩ <;> rw [h]
    · exact .refl b u
    · have hframe := (traceWork_giveGenerator u c g).frame
      refine ⟨⟨?_, ?_, fun d _ => ?_⟩, fun x a ha hb => ?_, fun x hx => ?_⟩
      · rw [giveGenerator_branch hqueue', if_neg hne.symm]
      · rw [hframe]
        rfl
      · rw [hframe]
        rfl
      · rw [giveGenerator_gen hqueue'] at ha
        split at ha
        · rw [← (Option.some.inj ha)] at hb
          exact absurd (hb.symm.trans (hown.head hqueue)) hne
        · exact ha
      · rw [giveGenerator_gen hqueue', if_neg]
        rintro rfl
        exact hx (freeGen_eq_some_iff.mp hfree).1
  · have hhead' := hhead j js { j with stage := .range, attempts := 0 } hqueue
    refine .of_gens ⟨hhead'.branch, rfl, fun d hd => ?_⟩ rfl
    refine State.setEntry_entry_ne _ _ _ _ fun hdrop => hne ?_
    rw [← hd, ← hdrop, hown.head hqueue]

theorem nodup_turnAfter (b : Branch) : (turnAfter b).Nodup := by
  revert b
  decide

/-- What the start of every head shows of one branch. -/
theorem started_at {s : State} (hown : Own s) (c b : Branch) : ∃ u, Own u ∧ u.mode = s.mode ∧ StartsElsewhere b s u ∧
    StartsElsewhere b (u.startHead b) ((turnAfter c).foldl (fun t b => t.startHead b) s) := by
  obtain ⟨u, ⟨hown', hmode⟩, hbefore, hafter⟩ := foldl_seen (f := fun t b => t.startHead b) (s := s) (b := b)
    (P := fun u => Own u ∧ u.mode = s.mode) (.refl b) .trans
    (fun u c hu => ⟨hu.1.of_drops (headWork_startHead u c).drops, by rw [jobWork_startHead u c]; exact hu.2⟩)
    (fun _ _ hu hne => startsElsewhere_startHead hu.1 hne) (nodup_turnAfter c) (mem_turnAfter c b) ⟨hown, rfl⟩
  exact ⟨u, hown', hmode, hbefore, hafter⟩

theorem sendCall_lane_ne (s : State) {b c : Branch} (hne : c ≠ b) (call : Call) : (s.sendCall b call).lane c = s.lane c :=
  State.setLane_lane_ne _ _ _ _ hne.symm

theorem grant_lane_ne (s : State) {b c : Branch} (hne : c ≠ b) : (s.grant b).lane c = s.lane c := by
  rcases grant_cases s b with h | h | h | ⟨j, js, hqueue, -, h⟩ <;> rw [h]
  · exact sendCall_lane_ne (s.setBranch b _) hne _
  · refine (sendCall_lane_ne _ hne _).trans ?_
    unfold State.setHead
    split <;> rfl
  · refine (sendCall_lane_ne _ hne _).trans ((State.setLane_lane_ne _ _ _ _ hne.symm).trans ?_)
    rw [setHead_eq hqueue]
    rfl

theorem sameAt_grant (s : State) {b c : Branch} (hne : b ≠ c) : SameAt b s (s.grant c) :=
  ⟨grant_branch_ne s c hne, grant_lane_ne s hne, fun d _ => grant_entry s c d⟩

/-- What the grant of every window shows of one branch. -/
theorem granted_at (s : State) (b : Branch) : ∃ u, SameAt b s u ∧
    SameAt b (u.grant b) (allBranches.foldl (fun t b => t.grant b) s) := by
  obtain ⟨u, -, hbefore, hafter⟩ := foldl_seen (f := fun t b => t.grant b) (P := fun _ => True) (s := s) (.refl b) .trans
    (fun _ _ h => h) (fun u _ _ hne => sameAt_grant u hne) nodup_allBranches (mem_allBranches b) trivial
  exact ⟨u, hbefore, hafter⟩

/-- A due open call is granted a window that is NONE, and no other (R36, R38). -/
theorem grant_due {s : State} {b : Branch} (hdue : (s.branch b).openDue = true) :
    ((s.branch b).window = .none ∧ (s.grant b).branch b = { s.branch b with
        window := .openCall, listenMs := some 300, openDue := false } ∧
      (s.grant b).lane b = { s.lane b with calls := (s.lane b).calls ++ [.openCall b] }) ∨
    ((s.branch b).window ≠ .none ∧ s.grant b = s) := by
  by_cases hwindow : (s.branch b).window = .none
  · left
    rw [grant_openCall hwindow hdue]
    refine ⟨hwindow, State.setBranch_branch_same .., ?_⟩
    exact State.setLane_lane_same (s.setBranch b _) b _
  · exact .inr ⟨hwindow, grant_taken hwindow⟩

end Sys2Proof.Machine

/-! PROOFS. What the part is in HOLD, and what the recovery grants and starts (R47, R48). -/

namespace Sys2Proof.Machine

/-- The start of a branch's head changes its head, and may give it a generator. -/
theorem startHead_branch (s : State) (b : Branch) : ∃ q m, (s.startHead b).branch b =
    { s.branch b with queue := q, frameMarks := m } ∧ q.tail = (s.queue b).tail := by
  rcases startHead_cases s b with h | ⟨j, js, hqueue, -, -, -, h⟩ | ⟨j, js, hqueue, -, -, -, h⟩ <;> rw [h]
  · exact ⟨_, _, rfl, rfl⟩
  · have hbranch : (s.setQueue b ({ j with stage := .waitTrace } :: js)).branch b =
        { s.branch b with queue := { j with stage := .waitTrace } :: js } := State.setBranch_branch_same ..
    have hqueue' : (s.setQueue b ({ j with stage := .waitTrace } :: js)).queue b = { j with stage := .waitTrace } :: js :=
      congrArg BranchCtl.queue hbranch
    generalize s.setQueue b _ = u at *
    rcases requestGenerator_cases u b with h | ⟨g, -, -, h⟩ <;> rw [h]
    · exact ⟨_, _, hbranch, by rw [hqueue]; rfl⟩
    · rw [giveGenerator_branch hqueue', if_pos rfl, hbranch]
      exact ⟨_, _, rfl, by rw [hqueue]; rfl⟩
  · exact ⟨{ j with stage := .range, attempts := 0 } :: js, (s.branch b).frameMarks, State.setBranch_branch_same ..,
      by rw [hqueue]; rfl⟩

theorem grants_gen (l : List Branch) (s : State) (g : Gen) : (l.foldl (fun t b => t.grant b) s).gen g = s.gen g :=
  foldl_keeps (P := fun t : State => t.gen g = s.gen g) (fun u c hu => (grant_gen u c g).trans hu) l rfl

/-- One branch after every head has started and every window is granted, where its open call was due: its head started
from a state like the first, and the open call took a window that was NONE (R36, R38, R48). -/
structure Proceeded (b : Branch) (s u t : State) : Prop where
  mode : u.mode = s.mode
  before : StartsElsewhere b s u
  entry : ∀ d : Drop, d.branch = b → t.entry d = (u.startHead b).entry d
  held : ∀ g, ((u.startHead b).gen g).attached ≠ none → t.gen g = (u.startHead b).gen g
  granted : (s.branch b).window = .none → t.branch b = { (u.startHead b).branch b with
      window := .openCall, listenMs := some 300, openDue := false } ∧
    t.lane b = { s.lane b with calls := (s.lane b).calls ++ [.openCall b] }
  taken : (s.branch b).window ≠ .none → t.branch b = (u.startHead b).branch b ∧ t.lane b = s.lane b

theorem proceedAll_due {s : State} (hown : Own s) {b : Branch} (hdue : (s.branch b).openDue = true) :
    ∃ u, Proceeded b s u s.proceedAll := by
  obtain ⟨u, -, hmode, hbefore, hstarted⟩ := started_at hown s.lastServed b
  rw [State.proceedAll]
  generalize (turnAfter s.lastServed).foldl (fun t b => t.startHead b) s = w at hstarted
  obtain ⟨v, hv, hgranted⟩ := granted_at w b
  have hgens := grants_gen allBranches w
  generalize allBranches.foldl (fun t b => t.grant b) w = t at hgranted hgens ⊢
  obtain ⟨q, m, hhead, -⟩ := startHead_branch u b
  have hvbranch : v.branch b = (u.startHead b).branch b := hv.branch.trans hstarted.branch
  have hvlane : v.lane b = s.lane b := by
    rw [hv.lane, hstarted.lane, State.lane, startHead_lanes]
    exact hbefore.lane
  have hwindow : (v.branch b).window = (s.branch b).window := by rw [hvbranch, hhead, hbefore.branch]
  have hvdue : (v.branch b).openDue = true := by rw [hvbranch, hhead, hbefore.branch, hdue]
  refine ⟨u, hmode, hbefore, fun d hd => ?_, fun g hg => ?_, fun hnone => ?_, fun hsome => ?_⟩
  · rw [hgranted.entry d hd, grant_entry, hv.entry d hd, hstarted.entry d hd]
  · rw [hgens, hstarted.held g hg]
  · rcases grant_due hvdue with ⟨-, hbranch, hlane⟩ | ⟨hno, -⟩
    · rw [hgranted.branch, hbranch, hgranted.lane, hlane, hvbranch, hvlane]
      exact ⟨rfl, rfl⟩
    · exact absurd (hwindow.trans hnone) hno
  · rcases grant_due hvdue with ⟨hno, -, -⟩ | ⟨-, hsame⟩
    · exact absurd (hwindow.symm.trans hno) hsome
    · rw [hgranted.branch, hgranted.lane, hsame, hvbranch, hvlane]
      exact ⟨rfl, rfl⟩

/-- The other fields of the branch and its queue (R48). -/
theorem Proceeded.rest {b : Branch} {s u t : State} (h : Proceeded b s u t) :
    (t.branch b).openTimer = (s.branch b).openTimer ∧ (t.branch b).admitWait = (s.branch b).admitWait ∧
    t.queue b = (u.startHead b).queue b ∧ (t.branch b).frameMarks = ((u.startHead b).branch b).frameMarks ∧
    (t.queue b).tail = (s.queue b).tail := by
  obtain ⟨q, m, hhead, htail⟩ := startHead_branch u b
  have hbranch : t.branch b = { (u.startHead b).branch b with
      window := (t.branch b).window, listenMs := (t.branch b).listenMs, openDue := (t.branch b).openDue } := by
    by_cases hwindow : (s.branch b).window = .none
    · rw [(h.granted hwindow).1]
    · rw [(h.taken hwindow).1]
  have hqueue : t.queue b = (u.startHead b).queue b := by rw [State.queue, hbranch]; rfl
  refine ⟨by rw [hbranch, hhead, h.before.branch], by rw [hbranch, hhead, h.before.branch], hqueue, by rw [hbranch], ?_⟩
  rw [hqueue, State.queue, hhead, htail, h.before.queue]

/-- A head that waits for a generator after its start has one, or sees its drop taken, or every generator (R116). -/
theorem Proceeded.activate {b : Branch} {s u t : State} (h : Proceeded b s u t) (hown : Own s) {j : Job} {js : List Job}
    (hlive : s.mode = .live) (hqueue : s.queue b = j :: js) (hstage : j.stage = .waiting) (hkind : j.kind = .activate) :
    (t.queue b).head? = some { j with stage := .waitTrace } ∧ (∀ d : Drop, d.branch = b → t.entry d = s.entry d) ∧
    ((s.branch b).frameMarks = none →
      ((t.branch b).frameMarks = some 0 ∧ ∃ g, t.gen g = ⟨some (j.drop, .binding b), bindingCode b, 12, .cleared⟩) ∨
      ((t.branch b).frameMarks = none ∧
        ((∃ g a, (s.gen g).attached = some a ∧ a.1 = j.drop) ∨ ∀ g, (t.gen g).attached ≠ none))) := by
  obtain ⟨-, -, htqueue, htmarks, -⟩ := h.rest
  have huqueue : u.queue b = j :: js := h.before.queue.trans hqueue
  have hstart := startHead_activate huqueue (h.mode.trans hlive) hstage hkind
  have hheld := h.held
  have hentry := h.entry
  have hxbranch : (u.setQueue b ({ j with stage := .waitTrace } :: js)).branch b =
      { u.branch b with queue := { j with stage := .waitTrace } :: js } := State.setBranch_branch_same ..
  have hxgen : ∀ g, (u.setQueue b ({ j with stage := .waitTrace } :: js)).gen g = u.gen g := fun _ => rfl
  have hxentry : ∀ d, (u.setQueue b ({ j with stage := .waitTrace } :: js)).entry d = u.entry d := fun _ => rfl
  rw [hstart] at htqueue htmarks hheld hentry
  generalize u.setQueue b _ = x at *
  have hxqueue : x.queue b = { j with stage := .waitTrace } :: js := congrArg BranchCtl.queue hxbranch
  refine ⟨?_, fun d hd => ?_, fun hmarks => ?_⟩
  · rw [htqueue, (traceWork_requestGenerator x b).queue, hxqueue]
    rfl
  · rw [hentry d hd, (traceWork_requestGenerator x b).frame]
    exact (hxentry d).trans (h.before.entry d hd)
  · have hxmarks : (x.branch b).frameMarks = none := by rw [hxbranch, h.before.branch, hmarks]
    by_cases hoff : x.genOn j.drop = none
    · cases hfree : x.freeGen with
      | some g =>
        rw [requestGenerator_given hxqueue rfl hxmarks hoff hfree] at htmarks hheld
        have hgiven := giveGenerator_gen hxqueue g g
        rw [if_pos rfl] at hgiven
        refine .inl ⟨?_, g, ?_⟩
        · rw [htmarks, giveGenerator_branch hxqueue, if_pos rfl]
        · rw [hheld g (by rw [hgiven]; exact fun h => nomatch h), hgiven]
      | none =>
        rw [requestGenerator_waits hxqueue rfl hxmarks (.inr hfree)] at htmarks hheld
        have hbusy := freeGen_eq_none_iff.mp hfree
        exact .inr ⟨htmarks.trans hxmarks, .inr fun g => by rw [hheld g (hbusy g)]; exact hbusy g⟩
    · rw [requestGenerator_waits hxqueue rfl hxmarks (.inl hoff)] at htmarks
      obtain ⟨g, hg⟩ := Option.ne_none_iff_exists'.mp hoff
      obtain ⟨a, ha, hdrop⟩ := on_iff.mp (genOn_eq_some hg)
      rw [hxgen] at ha
      exact .inr ⟨htmarks.trans hxmarks, .inl ⟨g, a, h.before.gained g a ha (by rw [hdrop]; exact hown.head hqueue), hdrop⟩⟩

theorem Proceeded.rejoin {b : Branch} {s u t : State} (h : Proceeded b s u t) (hown : Own s) {j : Job} {js : List Job}
    (hlive : s.mode = .live) (hqueue : s.queue b = j :: js) (hstage : j.stage = .waiting) (hkind : j.kind = .rejoin) :
    (t.queue b).head? = some { j with stage := .range, attempts := 0 } ∧
    t.entry j.drop = (s.entry j.drop).enter .ranging ∧ ∀ d : Drop, d.branch = b → j.drop ≠ d → t.entry d = s.entry d := by
  obtain ⟨-, -, htqueue, -, -⟩ := h.rest
  have hstart := startHead_rejoin (h.before.queue.trans hqueue) (h.mode.trans hlive) hstage hkind
  have hbranch := hown.head hqueue
  have hentry := h.entry
  rw [hstart] at htqueue hentry
  refine ⟨?_, ?_, fun d hd hne => ?_⟩
  · rw [htqueue]
    exact congrArg List.head? ((State.setQueue_queue ..).trans (if_pos rfl))
  · rw [hentry _ hbranch, State.setEntry_entry_same, h.before.entry _ hbranch]
  · rw [hentry d hd, State.setEntry_entry_ne _ _ _ _ hne]
    exact h.before.entry d hd

theorem Proceeded.stays {b : Branch} {s u t : State} (h : Proceeded b s u t)
    (hidle : s.mode ≠ .live ∨ ∀ j ∈ (s.queue b).head?, j.stage ≠ .waiting) :
    t.queue b = s.queue b ∧ ∀ d : Drop, d.branch = b → t.entry d = s.entry d := by
  have hstart : u.startHead b = u := by
    cases hqueue : u.queue b with
    | nil => simp only [State.startHead, hqueue]
    | cons j js =>
      refine startHead_stays hqueue (hidle.imp (h.mode ▸ ·) fun hno => hno j ?_)
      rw [← h.before.queue, hqueue]
      rfl
  obtain ⟨-, -, htqueue, -, -⟩ := h.rest
  have hentry := h.entry
  rw [hstart] at htqueue hentry
  exact ⟨htqueue.trans h.before.queue, fun d hd => (hentry d hd).trans (h.before.entry d hd)⟩

end Sys2Proof.Machine

/-! PROOFS. Entry into HOLD and recovery as a whole (R47, R48, R117, R163, R164). -/

namespace Sys2Proof.Machine

section
variable {s : State} {b : Branch} {j : Job}

/-! What a head job and its entry become in HOLD (R47) -/

theorem onHold_of_standing (h : j.stage = .waiting ∨ j.stage = .admitting) (e : Entry) :
    j.onHold = j ∧ e.onHold j.stage = e := by
  rcases h with h | h <;> simp only [Job.onHold, Entry.onHold, h, and_self]

theorem onHold_of_waitTrace (h : j.stage = .waitTrace) (e : Entry) :
    j.onHold = { j with stage := .waiting, attempts := 0 } ∧ e.onHold j.stage = e := by
  simp only [Job.onHold, Entry.onHold, h, and_self]

theorem onHold_of_matching (h : j.stage = .matching) {e : Entry} (hstate : e.state = .binding) :
    j.onHold = { j with kind := .activate, stage := .waiting, attempts := 0 } ∧
    e.onHold j.stage = { e.unbound .planned with lastResult := .held } := by
  have hentry : (e.enter .planned).result .held = { e.unbound .planned with lastResult := .held } := by
    rw [enter_planned (by rw [hstate]; decide)]
    rfl
  simp only [Job.onHold, Entry.onHold, h, hentry, and_self]

theorem onHold_of_range (h : j.stage = .range) {e : Entry} (hstate : e.state = .ranging) :
    j.onHold = { j with kind := .rejoin, stage := .waiting, attempts := 0 } ∧
    e.onHold j.stage = { e.boundAgain with lastResult := .held } := by
  have hentry : (e.enter .bound).result .held = { e.boundAgain with lastResult := .held } := by
    rw [enter_bound (by rw [hstate]; decide)]
    rfl
  simp only [Job.onHold, Entry.onHold, h, hentry, and_self]

/-- The head of a branch and its entry in HOLD. -/
theorem heldBack_head (hown : Own s) (hhead : (s.queue b).head? = some j) :
    (s.heldBack.queue b).head? = some j.onHold ∧ s.heldBack.entry j.drop = (s.entry j.drop).onHold j.stage := by
  obtain ⟨hbranch, hentry⟩ := heldBack_at hown b
  refine ⟨?_, ?_⟩
  · rw [State.queue, hbranch, onHold_head]
    exact congrArg (Option.map Job.onHold) hhead
  · rw [hentry _ (hown b j (List.mem_of_mem_head? hhead)), hhead, heldBy_head]

theorem enterHold_branch (b : Branch) : s.enterHold.branch b = s.fallen.heldBack.branch b := by
  rw [enterHold_eq, State.raise_branch]

theorem enterHold_entry (d : Drop) : s.enterHold.entry d = s.fallen.heldBack.entry d := by
  rw [enterHold_eq, State.raise_entry]

theorem enterHold_gen (g : Gen) : s.enterHold.gen g = s.fallen.heldBack.gen g := by
  rw [enterHold_eq, State.raise_gen]

theorem enterHold_head (hown : Own s) (hhead : (s.queue b).head? = some j) :
    (s.enterHold.queue b).head? = some j.onHold ∧ s.enterHold.entry j.drop = (s.entry j.drop).onHold j.stage := by
  obtain ⟨hnew, hentry⟩ := heldBack_head (s := s.fallen) hown hhead
  exact ⟨by rw [State.queue, enterHold_branch]; exact hnew, (enterHold_entry _).trans hentry⟩

theorem enterHold_port (p : Port) : s.enterHold.port p = (s.port p).raise .supplyLow := by
  rw [enterHold_eq, State.raise_port, (jobWork_heldBack _).port]
  rfl

theorem enterHold_frame (s : State) : s.enterHold = { s with
    monitor := .low, mode := .hold, resume := s.inForce, branches := s.enterHold.branches, roster := s.enterHold.roster
    generators := s.enterHold.generators, ports := s.enterHold.ports } := by
  have hframe := heldBack_frame s.fallen
  rw [enterHold_eq]
  generalize s.fallen.heldBack = v at hframe ⊢
  rw [hframe]
  rfl

/-! The state from which the recovery proceeds (R48) -/

/-- The state in which the open calls of a recovery are due. -/
def State.recovering (s : State) : State := { s with monitor := .ok, mode := s.resume.mode }.dueOpenCalls

theorem leaveHold_eq (s : State) : s.leaveHold = s.recovering.proceedAll.raise .supplyOk := rfl

theorem dueOpenCalls_branch (s : State) (b : Branch) : s.dueOpenCalls.branch b =
    { s.branch b with openDue := true, openTimer := some s.settings.openPeriod } := by
  simp [State.dueOpenCalls, State.branch]

theorem recovering_branch (b : Branch) : s.recovering.branch b =
    { s.branch b with openDue := true, openTimer := some s.settings.openPeriod } := dueOpenCalls_branch _ b

theorem recovering_queue (b : Branch) : s.recovering.queue b = s.queue b := by
  rw [State.queue, recovering_branch]
  rfl

theorem recovering_mode : s.recovering.mode = s.resume.mode := rfl

theorem jobWork_recovering : JobWork { s with monitor := .ok, mode := s.resume.mode } s.recovering.proceedAll :=
  (jobWork_dueOpenCalls _).trans (jobWork_proceedAll _)

theorem leaveHold_frame (s : State) : s.leaveHold = { s with
    monitor := .ok, mode := s.resume.mode, branches := s.leaveHold.branches, lanes := s.leaveHold.lanes
    roster := s.leaveHold.roster, generators := s.leaveHold.generators, lastServed := s.leaveHold.lastServed
    ports := s.leaveHold.ports } := by
  have hframe := jobWork_recovering (s := s)
  rw [leaveHold_eq]
  generalize s.recovering.proceedAll = v at hframe ⊢
  rw [hframe]
  rfl

theorem leaveHold_port (p : Port) : s.leaveHold.port p = (s.port p).raise .supplyOk := by
  rw [leaveHold_eq, State.raise_port, jobWork_recovering.port]
  rfl

/-- One branch after a recovery. -/
theorem leaveHold_at (hown : Own s) (b : Branch) : ∃ u, Proceeded b s.recovering u s.leaveHold := by
  have hdue : (s.recovering.branch b).openDue = true := by rw [recovering_branch]
  have hown' : Own s.recovering := fun c k hk => hown c k (by rwa [recovering_queue] at hk)
  obtain ⟨u, hmode, hbefore, hentry, hheld, hgranted, htaken⟩ := proceedAll_due hown' hdue
  rw [leaveHold_eq]
  generalize s.recovering.proceedAll = t at *
  exact ⟨u, hmode, hbefore, hentry, hheld, hgranted, htaken⟩

end

/-- Settles O51. -/
theorem entryIntoHoldSendsHeadsBack : Obligations.EntryIntoHoldSendsHeadsBack := by
  refine ⟨fun s hlaws => ?fall, fun s hlaws => ?recovery⟩
  case fall =>
    intro t
    have hown := own_of_queueLaws hlaws
    have hframe : t = _ := enterHold_frame s
    refine ⟨by rw [hframe], by rw [hframe], fun h => ?_, fun h => ?_, fun p => congrArg PortRecord.events (enterHold_port p),
      fun b => ?_, fun g d b => ?_, ?_, fun b j hhead => ?_⟩
    · rw [hframe]
      simp only [State.inForce, h]
    · rw [hframe]
      simp only [State.inForce, h]
    · obtain ⟨hbranch, -⟩ := heldBack_at (s := s.fallen) hown b
      have htail : (t.queue b).tail = (s.queue b).tail := by
        rw [State.queue, enterHold_branch, hbranch, onHold_tail]
        rfl
      rw [enterHold_branch, hbranch]
      exact ⟨rfl, rfl, rfl, rfl, rfl, htail⟩
    · rw [enterHold_gen]
      exact heldBack_gen _ g d b
    · rw [hframe]
    · obtain ⟨hnew, hentry⟩ := enterHold_head hown hhead
      rw [hnew, hentry]
      refine ⟨fun h => ?_, fun h => ?_, fun h hstate => ?_, fun h hstate => ?_⟩
      · obtain ⟨h1, h2⟩ := onHold_of_standing h (s.entry j.drop)
        exact ⟨congrArg some h1, h2⟩
      · obtain ⟨h1, h2⟩ := onHold_of_waitTrace h (s.entry j.drop)
        exact ⟨congrArg some h1, h2⟩
      · obtain ⟨h1, h2⟩ := onHold_of_matching h hstate
        exact ⟨congrArg some h1, h2⟩
      · obtain ⟨h1, h2⟩ := onHold_of_range h hstate
        exact ⟨congrArg some h1, h2⟩
  case recovery =>
    intro t
    have hown := own_of_queueLaws hlaws
    have hown' : Own s.recovering := fun c k hk => hown c k (by rwa [recovering_queue] at hk)
    have hframe : t = _ := leaveHold_frame s
    refine ⟨rfl, by rw [hframe], by rw [hframe], by rw [hframe], leaveHold_port, fun b => ?_, fun b j hlive hhead hstage => ?_,
      fun d hd => ?_, ?_⟩
    · obtain ⟨u, hu⟩ := leaveHold_at hown b
      obtain ⟨htimer, hwait, -, -, htail⟩ := hu.rest
      have hgranted := hu.granted
      have htaken := hu.taken
      obtain ⟨q, m, hhead, -⟩ := startHead_branch u b
      rw [hhead, hu.before.branch] at hgranted htaken
      rw [recovering_branch] at hgranted htaken htimer hwait
      refine ⟨fun hnone => ?_, fun hsome => ?_, htimer, hwait, by rw [htail, recovering_queue], fun hidle => ?_⟩
      · obtain ⟨hb, hl⟩ := hgranted hnone
        rw [hb]
        exact ⟨rfl, rfl, rfl, hl⟩
      · obtain ⟨hb, hl⟩ := htaken hsome
        rw [hb]
        exact ⟨rfl, rfl, hl⟩
      · have hstay := hu.stays (hidle.imp (fun h => by rw [recovering_mode, h]; decide) (by rw [recovering_queue]; exact id))
        rw [hstay.1, recovering_queue]
    · obtain ⟨u, hu⟩ := leaveHold_at hown b
      have hmode : s.recovering.mode = .live := by rw [recovering_mode, hlive]; rfl
      have hqueue : s.recovering.queue b = j :: (s.queue b).tail := by
        rw [recovering_queue]
        exact (List.cons_head?_tail hhead).symm
      refine ⟨fun hkind hstate => ?_, fun hkind => ?_⟩
      · obtain ⟨hnew, hentry, -⟩ := hu.rejoin hown' hmode hqueue hstage hkind
        refine ⟨hnew, hentry.trans ?_⟩
        exact enter_ranging (e := s.entry j.drop) (by rw [hstate]; decide)
      · obtain ⟨hnew, -, hgiven⟩ := hu.activate hown' hmode hqueue hstage hkind
        refine ⟨hnew, fun hmarks => hgiven ?_⟩
        rw [recovering_branch]
        exact hmarks
    · obtain ⟨u, hu⟩ := leaveHold_at hown d.branch
      cases hqueue : s.queue d.branch with
      | nil => exact (hu.stays (.inr (by rw [recovering_queue, hqueue]; exact fun _ h => nomatch h))).2 d rfl
      | cons j js =>
        have hqueue' : s.recovering.queue d.branch = j :: js := (recovering_queue _).trans hqueue
        by_cases hidle : s.resume = .survey ∨ j.stage ≠ .waiting
        · refine (hu.stays (hidle.imp (fun h => by rw [recovering_mode, h]; decide) fun h k hk => ?_)).2 d rfl
          rw [hqueue'] at hk
          rwa [← Option.some.inj hk]
        · rw [not_or, not_not] at hidle
          obtain ⟨hlive, hstage⟩ := hidle
          have hmode : s.recovering.mode = .live := by
            rw [recovering_mode]
            cases hr : s.resume with
            | survey => exact absurd hr hlive
            | live => rfl
          cases hkind : j.kind with
          | activate => exact (hu.activate hown' hmode hqueue' hstage hkind).2.1 d rfl
          | rejoin =>
            obtain ⟨-, -, hothers⟩ := hu.rejoin hown' hmode hqueue' hstage hkind
            refine hothers d rfl fun hdrop => ?_
            rcases hd j (by rw [hqueue]; rfl) hdrop with h | h | h
            · exact h hstage
            · rw [hkind] at h
              cases h
            · exact hlive h
    · rw [hframe]

end Sys2Proof.Machine

/-! PROOFS. The end of the start-up scan (R150, R157 to R160, R171). -/

namespace Sys2Proof.Machine

/-! The reading of the slots (R147, R158 to R160) -/

/-- The state with the image of every slot as the scan finds it. -/
def State.imaged (s : State) : State := { s with images := Vector.ofFn fun d : Fin 64 => (s.slots[d]).found }

/-- The state as the slots leave it, before a torn one is reported. -/
def State.scanned (s : State) : State :=
  { s with
    images := s.imaged.images, roster := Vector.ofFn fun d : Fin 64 => s.imaged.restored d
    nextSeq := s.imaged.seqAfterScan, controller := .idle }

section
variable (s : State) (d : Drop)

theorem imaged_image : s.imaged.image d = (s.slot d).found := by simp [State.imaged, State.image, State.slot]

theorem scanned_image : s.scanned.image d = (s.slot d).found := by
  have himages : s.scanned.images = s.imaged.images := rfl
  rw [State.image, himages]
  exact imaged_image s d

theorem scanned_entry : s.scanned.entry d = s.imaged.restored d := by
  have hroster : s.scanned.roster = Vector.ofFn fun d : Fin 64 => s.imaged.restored d := rfl
  rw [State.entry, hroster]
  simp

theorem anyTorn_iff : (allDrops.any fun d => s.imaged.image d = .torn) = true ↔ ∃ d, (s.slot d).found = .torn := by
  simp [allDrops, imaged_image]

theorem readSlots_raiseWhen : s.readSlots = s.scanned.raiseWhen (∃ d, (s.slot d).found = .torn) .storeSuspect := by
  have hreads : s.readSlots =
      if (allDrops.any fun d => s.imaged.image d = .torn) = true then s.scanned.raise .storeSuspect else s.scanned := rfl
  rw [hreads, State.raiseWhen]
  generalize s.scanned = u
  exact if_congr (anyTorn_iff s) rfl rfl

end

section
variable {s : State} {d : Drop} {body : FilledBody}

theorem candidate_filled (h : s.image d = .filled body) : s.candidate d = some body := by simp only [State.candidate, h]

theorem candidate_unfilled (h : ∀ body, s.image d ≠ .filled body) : s.candidate d = none := by
  unfold State.candidate
  split
  next body hbody => exact absurd hbody (h body)
  next => rfl

theorem candidate_eq_some_iff : s.candidate d = some body ↔ s.image d = .filled body := by
  refine ⟨fun h => ?_, candidate_filled⟩
  by_contra hno
  cases himage : s.image d with
  | filled other =>
    rw [candidate_filled himage] at h
    rw [himage, Option.some.inj h] at hno
    exact hno rfl
  | _ =>
    rw [candidate_unfilled (by rw [himage]; exact fun _ => by simp)] at h
    cases h

theorem beaten_iff : s.beaten d body = true ↔ ∃ e c, e ≠ d ∧ s.image e = .filled c ∧ c.serial = body.serial ∧
    (body.seq < c.seq ∨ (body.seq = c.seq ∧ e < d)) := by
  rw [State.beaten, List.any_eq_true]
  constructor
  · rintro ⟨e, -, h⟩
    split at h
    next c hc =>
      simp only [Bool.and_eq_true, Bool.or_eq_true, decide_eq_true_eq] at h
      exact ⟨e, c, h.1.1, candidate_eq_some_iff.mp hc, h.1.2, h.2⟩
    next => cases h
  · rintro ⟨e, c, hne, hc, hserial, hwins⟩
    refine ⟨e, List.mem_finRange e, ?_⟩
    simp only [candidate_filled hc, Bool.and_eq_true, Bool.or_eq_true, decide_eq_true_eq]
    exact ⟨⟨hne, hserial⟩, hwins⟩

theorem restored_unfilled (h : ∀ body, s.image d ≠ .filled body) : s.restored d = .empty := by
  simp only [State.restored, candidate_unfilled h]

theorem restored_beaten (h : s.image d = .filled body) (hbeaten : s.beaten d body = true) : s.restored d =
    { Entry.empty with
      state := .planned, plot := body.plot, provider := body.provider, lastSerial := some body.serial
      lastResult := .crossed } := by
  simp only [State.restored, candidate_filled h, hbeaten, if_true]

theorem restored_winner (h : s.image d = .filled body) (hwins : s.beaten d body = false) : s.restored d =
    { Entry.empty with
      state := .bound, plot := body.plot, provider := body.provider, serial := some body.serial
      delay := some body.delay, offsetSource := .store } := by
  simp only [State.restored, candidate_filled h, hwins, Bool.false_eq_true, if_false]

end

/-! The store status that the scan leaves (R16) -/

section
variable {s : State} {d : Drop} {body : FilledBody}

theorem storeStatus_torn (h : s.image d = .torn) : s.storeStatus d = .suspect := by simp only [State.storeStatus, h]

theorem storeStatus_differs (h : s.image d = .filled body) (hserial : (s.entry d).serial ≠ some body.serial) :
    s.storeStatus d = .differs := by
  simp [State.storeStatus, h, State.agrees, hserial]

theorem storeStatus_matches (h : s.image d = .filled body) (hplot : (s.entry d).plot = body.plot)
    (hprovider : (s.entry d).provider = body.provider) (hserial : (s.entry d).serial = some body.serial)
    (hsource : (s.entry d).offsetSource = .store) (hdelay : (s.entry d).delay = some body.delay) :
    s.storeStatus d = .matches := by
  simp [State.storeStatus, h, State.agrees, hserial, hplot, hprovider, hdelay, offsetCode_filled hsource h]

end

/-! The next sequence number (R150) -/

theorem le_foldl_max {α : Type} (f : α → Nat) (l : List α) (n : Nat) :
    n ≤ l.foldl (fun n a => max n (f a)) n ∧ ∀ a ∈ l, f a ≤ l.foldl (fun n a => max n (f a)) n := by
  induction l generalizing n with
  | nil => exact ⟨le_rfl, fun _ h => nomatch h⟩
  | cons a l ih =>
    obtain ⟨hstart, hrest⟩ := ih (max n (f a))
    refine ⟨(Nat.le_max_left _ _).trans hstart, fun x hx => ?_⟩
    rcases List.mem_cons.mp hx with rfl | hx
    · exact (Nat.le_max_right _ _).trans hstart
    · exact hrest x hx

theorem foldl_max_mem {α : Type} (f : α → Nat) (l : List α) (n : Nat) :
    l.foldl (fun n a => max n (f a)) n = n ∨ ∃ a ∈ l, l.foldl (fun n a => max n (f a)) n = f a := by
  induction l generalizing n with
  | nil => exact .inl rfl
  | cons a l ih =>
    rcases ih (max n (f a)) with h | ⟨x, hx, h⟩
    · rcases Nat.le_total (f a) n with hle | hle
      · rw [Nat.max_eq_left hle] at h
        exact .inl (by rw [List.foldl_cons, Nat.max_eq_left hle, h])
      · rw [Nat.max_eq_right hle] at h
        exact .inr ⟨a, List.mem_cons_self .., by rw [List.foldl_cons, Nat.max_eq_right hle, h]⟩
    · exact .inr ⟨x, List.mem_cons_of_mem _ hx, h⟩

theorem seq_lt_seqAfterScan (s : State) (d : Drop) : (s.image d).seq < s.seqAfterScan :=
  Nat.lt_succ_of_le ((le_foldl_max (fun d => (s.image d).seq) allDrops 0).2 d (List.mem_finRange d))

theorem seqAfterScan_cases (s : State) : s.seqAfterScan = 1 ∨ (∃ d body, s.image d = .filled body ∧
    s.seqAfterScan = body.seq + 1) ∨ ∃ d n, s.image d = .empty n ∧ s.seqAfterScan = n + 1 := by
  rcases foldl_max_mem (fun d => (s.image d).seq) allDrops 0 with h | ⟨d, -, h⟩
  · exact .inl (congrArg Nat.succ h)
  · have hseq : s.seqAfterScan = (s.image d).seq + 1 := congrArg Nat.succ h
    cases himage : s.image d with
    | filled body => exact .inr (.inl ⟨d, body, himage, by rw [hseq, himage]; rfl⟩)
    | empty n => exact .inr (.inr ⟨d, n, himage, by rw [hseq, himage]; rfl⟩)
    | never => exact .inl (by rw [hseq, himage]; rfl)
    | torn => exact .inl (by rw [hseq, himage]; rfl)

/-! The open calls of a part without jobs (R36, R171) -/

theorem startHead_empty {s : State} {b : Branch} (h : s.queue b = []) : s.startHead b = s := by
  simp only [State.startHead, h]

theorem proceedAll_empty {s : State} (h : ∀ b, s.queue b = []) :
    s.proceedAll = allBranches.foldl (fun t b => t.grant b) s := by
  have hstarted : (turnAfter s.lastServed).foldl (fun t b => t.startHead b) s = s :=
    foldl_keeps (P := fun t => t = s) (fun u c hu => by rw [hu]; exact startHead_empty (h c)) _ rfl
  rw [State.proceedAll, hstarted]

theorem grants_frame (l : List Branch) (s : State) : l.foldl (fun t b => t.grant b) s = { s with
    branches := (l.foldl (fun t b => t.grant b) s).branches, lanes := (l.foldl (fun t b => t.grant b) s).lanes } := by
  induction l generalizing s with
  | nil => rfl
  | cons c l ih =>
    rw [List.foldl_cons]
    have hfirst := grant_frame s c
    have hrest := ih (s.grant c)
    generalize l.foldl (fun t b => t.grant b) (s.grant c) = v at hrest ⊢
    generalize s.grant c = u at hfirst hrest
    rw [hrest, hfirst]

/-- A branch whose call is due and whose window is NONE takes it when every window is granted. -/
theorem grants_due {s : State} {b : Branch} (hdue : (s.branch b).openDue = true) (hwindow : (s.branch b).window = .none) :
    (allBranches.foldl (fun t b => t.grant b) s).branch b = { s.branch b with
      window := .openCall, listenMs := some 300, openDue := false } ∧
    (allBranches.foldl (fun t b => t.grant b) s).lane b = { s.lane b with calls := (s.lane b).calls ++ [.openCall b] } := by
  obtain ⟨u, hu, hgranted⟩ := granted_at s b
  rcases grant_due (s := u) (b := b) (by rw [hu.branch, hdue]) with ⟨-, hbranch, hlane⟩ | ⟨hno, -⟩
  · rw [hgranted.branch, hgranted.lane, hbranch, hlane, hu.branch, hu.lane]
    exact ⟨rfl, rfl⟩
  · rw [hu.branch] at hno
    exact absurd hwindow hno

/-! The part at the end of the scan -/

/-- The part as the end of the scan leaves it before the supply is compared. -/
def State.scanEnd (s : State) : State := (s.readSlots.opened.dueOpenCalls.raise .started).proceedAll

/-- The state with which the open calls of the scan's end go out. -/
def State.scanDue (s : State) : State := s.scanned.opened.dueOpenCalls

theorem scanEnd_eq (s : State) : s.scanEnd =
    ((s.scanDue.raiseWhen (∃ d, (s.slot d).found = .torn) .storeSuspect).raise .started).proceedAll := by
  have hsuspect (u : State) (p : Prop) [Decidable p] : (u.raiseWhen p .storeSuspect).opened.dueOpenCalls =
      u.opened.dueOpenCalls.raiseWhen p .storeSuspect := by
    unfold State.raiseWhen
    split <;> rfl
  rw [State.scanEnd, readSlots_raiseWhen, hsuspect, ← State.scanDue]

theorem exec_scanEnd {s : State} {h : Bool} (hscan : s.startup = .scanning h) :
    exec .startupScanEnd s = .next ((if h then s else s.readHeader).scanEnd.superviseSupply) := by
  change execStartupScanEnd s = _
  rw [execStartupScanEnd, hscan]
  rfl

/-- The state as the header leaves it, before a suspect one is reported (R157). -/
def State.headed (s : State) : State :=
  let st := if s.keepThresholds then s.headerFound.2.1.keeping s.settings else s.headerFound.2.1
  { s with
    startup := .scanning true, settings := st, estateId := s.headerFound.2.2, headerImage := s.headerFound.1
    unsaved := decide (st ≠ s.headerFound.2.1) }

theorem readHeader_raiseWhen (s : State) :
    s.readHeader = s.headed.raiseWhen (s.headerFound.1 = .suspect) .storeSuspect := rfl

theorem readHeader_pending (s : State) (p q : List Instr) :
    { ({ s with pending := p } : State).readHeader with pending := q } = ({ s with pending := q } : State).readHeader := by
  have hraised (u : State) (c : Prop) [Decidable c] :
      { u.raiseWhen c .storeSuspect with pending := q } = ({ u with pending := q } : State).raiseWhen c .storeSuspect := by
    unfold State.raiseWhen
    split <;> rfl
  rw [readHeader_raiseWhen, readHeader_raiseWhen, hraised]
  rfl

end Sys2Proof.Machine

/-! PROOFS. The part that the end of the start-up scan opens (R150, R158 to R160, R171). -/

namespace Sys2Proof.Machine

section
variable (s : State)

/-- What the slots are found to hold takes the place of the images, the roster and the sequence number. -/
theorem scanned_frame : ∃ images roster, s.scanned = { s with
    images := images, roster := roster, nextSeq := s.imaged.seqAfterScan, controller := .idle } :=
  ⟨_, _, rfl⟩

theorem opened_due_entry (d : Drop) : s.opened.dueOpenCalls.entry d = s.entry d := rfl

theorem opened_due_image (d : Drop) : s.opened.dueOpenCalls.image d = s.image d := rfl

theorem opened_due_branch (b : Branch) : s.opened.dueOpenCalls.branch b =
    { s.branch b with openDue := true, openTimer := some s.settings.openPeriod } := dueOpenCalls_branch s.opened b

theorem scanDue_entry (d : Drop) : s.scanDue.entry d = s.imaged.restored d := by
  rw [State.scanDue, opened_due_entry, scanned_entry]

theorem scanDue_image (d : Drop) : s.scanDue.image d = (s.slot d).found := by
  rw [State.scanDue, opened_due_image, scanned_image]

theorem scanDue_branch (b : Branch) : s.scanDue.branch b =
    { s.branch b with openDue := true, openTimer := some s.settings.openPeriod } := by
  obtain ⟨images, roster, hscanned⟩ := scanned_frame s
  rw [State.scanDue, opened_due_branch, hscanned]
  rfl

theorem scanDue_frame : s.scanDue = { s with
    startup := .running, mode := s.settings.startMode.mode, resume := s.settings.startMode
    frame := some ⟨s.settings.stepWidth, 1⟩, baseTick := 0, branches := s.scanDue.branches, images := s.scanDue.images
    roster := s.scanDue.roster, nextSeq := s.imaged.seqAfterScan, controller := .idle } := by
  obtain ⟨images, roster, hscanned⟩ := scanned_frame s
  rw [State.scanDue, hscanned]
  rfl

end

/-- The state in which the open calls of the scan's end go out, with its events raised. -/
def State.scanLoud (s : State) : State :=
  (s.scanDue.raiseWhen (∃ d, (s.slot d).found = .torn) .storeSuspect).raise .started

section
variable {s : State}

theorem scanLoud_frame (s : State) : s.scanLoud = { s.scanDue with ports := s.scanLoud.ports } := by
  rw [State.scanLoud]
  generalize s.scanDue = v
  rw [raiseWhen_frame]
  rfl

theorem scanLoud_branch (b : Branch) : s.scanLoud.branch b = s.scanDue.branch b := by
  rw [scanLoud_frame]
  generalize s.scanDue = v
  rfl

theorem scanLoud_port (p : Port) : s.scanLoud.port p = { s.port p with events := (s.port p).events |||
    (if ∃ d, (s.slot d).found = .torn then Event.storeSuspect.bit else 0) ||| Event.started.bit } := by
  have hport : s.scanDue.port p = s.port p := by
    rw [scanDue_frame]
    generalize s.scanDue = v
    rfl
  rw [State.scanLoud, State.raise_port, raiseWhen_port, hport]
  rfl

theorem scanEnd_grants (hempty : ∀ b, s.branch b = .empty) :
    s.scanEnd = allBranches.foldl (fun t b => t.grant b) s.scanLoud := by
  rw [scanEnd_eq, ← State.scanLoud]
  refine proceedAll_empty fun b => ?_
  rw [State.queue, scanLoud_branch, scanDue_branch, hempty]
  rfl

/-- The open calls go out from a part with no job: each branch takes its window, and the rest stands. -/
theorem scanEnd_at (hempty : ∀ b, s.branch b = .empty) (b : Branch) :
    s.scanEnd.branch b = { BranchCtl.empty with
      window := .openCall, listenMs := some 300, openTimer := some s.settings.openPeriod } ∧
    s.scanEnd.lane b = { s.lane b with calls := (s.lane b).calls ++ [.openCall b] } := by
  have hbranch : s.scanLoud.branch b =
      { BranchCtl.empty with openDue := true, openTimer := some s.settings.openPeriod } := by
    rw [scanLoud_branch, scanDue_branch, hempty]
  have hlane : s.scanLoud.lane b = s.lane b := by
    rw [scanLoud_frame, scanDue_frame]
    generalize s.scanDue = v
    generalize s.scanLoud = w
    rfl
  have hgranted := grants_due (s := s.scanLoud) (b := b) (by rw [hbranch]) (by rw [hbranch]; rfl)
  rw [← scanEnd_grants hempty, hbranch, hlane] at hgranted
  exact hgranted

theorem scanEnd_frame (hempty : ∀ b, s.branch b = .empty) : s.scanEnd = { s with
    startup := .running, mode := s.settings.startMode.mode, resume := s.settings.startMode
    frame := some ⟨s.settings.stepWidth, 1⟩, baseTick := 0, ports := s.scanLoud.ports, roster := s.scanDue.roster
    images := s.scanDue.images, nextSeq := s.imaged.seqAfterScan, controller := .idle
    branches := s.scanEnd.branches, lanes := s.scanEnd.lanes } := by
  have hgrants := grants_frame allBranches s.scanLoud
  have hdue := scanDue_frame s
  have hloud := scanLoud_frame s
  rw [← scanEnd_grants hempty] at hgrants
  generalize s.scanEnd = o at *
  generalize s.scanLoud = w at *
  generalize s.scanDue = v at *
  generalize s.imaged.seqAfterScan = n at *
  rw [hgrants, hloud, hdue]

theorem scanEnd_entry (hempty : ∀ b, s.branch b = .empty) (d : Drop) : s.scanEnd.entry d = s.imaged.restored d := by
  have hframe := scanEnd_frame hempty
  rw [← scanDue_entry]
  generalize s.scanDue = v at *
  generalize s.scanEnd = o at *
  rw [hframe]
  rfl

theorem scanEnd_image (hempty : ∀ b, s.branch b = .empty) (d : Drop) : s.scanEnd.image d = (s.slot d).found := by
  have hframe := scanEnd_frame hempty
  rw [← scanDue_image]
  generalize s.scanDue = v at *
  generalize s.scanEnd = o at *
  rw [hframe]
  rfl

theorem scanEnd_port (hempty : ∀ b, s.branch b = .empty) (p : Port) : s.scanEnd.port p = { s.port p with
    events := (s.port p).events ||| (if ∃ d, (s.slot d).found = .torn then Event.storeSuspect.bit else 0) |||
      Event.started.bit } := by
  have hframe := scanEnd_frame hempty
  rw [← scanLoud_port]
  generalize s.scanLoud = v at *
  generalize s.scanEnd = o at *
  rw [hframe]
  rfl

/-- The entry and the store status of a drop as its slot was found (R16, R158, R159). -/
theorem scanEnd_slot (hempty : ∀ b, s.branch b = .empty) (d : Drop) :
    ((∀ body, (s.slot d).found ≠ .filled body) → s.scanEnd.entry d = .empty) ∧
    ((s.slot d).found = .torn → s.scanEnd.storeStatus d = .suspect) ∧
    ∀ body, (s.slot d).found = .filled body → (s.scanEnd.entry d).plot = body.plot ∧
      (s.scanEnd.entry d).provider = body.provider ∧
      (s.imaged.beaten d body = true → (s.scanEnd.entry d).state = .planned ∧ (s.scanEnd.entry d).serial = none ∧
        (s.scanEnd.entry d).lastSerial = some body.serial ∧ (s.scanEnd.entry d).lastResult = .crossed ∧
        (s.scanEnd.entry d).offsetSource = .working ∧ s.scanEnd.storeStatus d = .differs) ∧
      (s.imaged.beaten d body = false → (s.scanEnd.entry d).state = .bound ∧
        (s.scanEnd.entry d).serial = some body.serial ∧ (s.scanEnd.entry d).delay = some body.delay ∧
        (s.scanEnd.entry d).offsetSource = .store ∧ s.scanEnd.storeStatus d = .matches) := by
  have hentry := scanEnd_entry hempty d
  have himage := scanEnd_image hempty d
  have hfound := imaged_image s d
  generalize s.scanEnd = o at *
  refine ⟨fun hnone => ?_, fun htorn => storeStatus_torn (himage.trans htorn), fun body hbody => ?_⟩
  · rw [hentry, restored_unfilled (by rw [hfound]; exact hnone)]
  · have hfilled : o.image d = .filled body := himage.trans hbody
    cases hbeaten : s.imaged.beaten d body with
    | true =>
      rw [restored_beaten (hfound.trans hbody) hbeaten] at hentry
      have hdiffers := storeStatus_differs hfilled (by rw [hentry]; exact fun h => nomatch h)
      rw [hentry]
      exact ⟨rfl, rfl, fun _ => ⟨rfl, rfl, rfl, rfl, rfl, hdiffers⟩, fun h => nomatch h⟩
    | false =>
      rw [restored_winner (hfound.trans hbody) hbeaten] at hentry
      have hmatches := storeStatus_matches hfilled (by rw [hentry]) (by rw [hentry]) (by rw [hentry]) (by rw [hentry])
        (by rw [hentry])
      rw [hentry]
      exact ⟨rfl, rfl, (fun h => nomatch h), fun _ => ⟨rfl, rfl, rfl, rfl, hmatches⟩⟩

/-- The sequence number after the scan (R150). -/
theorem scanEnd_seq (hempty : ∀ b, s.branch b = .empty) :
    (∀ d body, (s.slot d).found = .filled body → body.seq < s.scanEnd.nextSeq) ∧
    (∀ d n, (s.slot d).found = .empty n → n < s.scanEnd.nextSeq) ∧
    (s.scanEnd.nextSeq = 1 ∨ (∃ d body, (s.slot d).found = .filled body ∧ s.scanEnd.nextSeq = body.seq + 1) ∨
      ∃ d n, (s.slot d).found = .empty n ∧ s.scanEnd.nextSeq = n + 1) := by
  have hseq : s.scanEnd.nextSeq = s.imaged.seqAfterScan := by
    have hframe := scanEnd_frame hempty
    generalize s.imaged.seqAfterScan = n at *
    generalize s.scanEnd = o at *
    rw [hframe]
  have hlt := seq_lt_seqAfterScan s.imaged
  have hcases := seqAfterScan_cases s.imaged
  simp only [imaged_image, ← hseq] at hlt hcases
  refine ⟨fun d body hbody => ?_, fun d n hn => ?_, hcases⟩
  · have := hlt d
    rwa [hbody] at this
  · have := hlt d
    rwa [hn] at this

end

/-- Settles O53. -/
theorem scanEndOpensThePart : Obligations.ScanEndOpensThePart := by
  refine ⟨fun s u hscan hstep => ?header, fun s hscan hmonitor hempty => ?opened⟩
  case header =>
    have hidle : step { s with pending := [] } = .next ({ s with pending := [] } : State).readHeader := by
      rw [step_nil _ rfl, State.timePasses]
      simp only [hscan]
    have hu : u = ({ s with pending := [] } : State).readHeader := (Host.Outcome.next.inj (hidle.symm.trans hstep)).symm
    have hstart : ({ u with pending := s.pending } : State).startup = .scanning true := by
      rw [hu]
      exact readHeader_startup _
    have hsame : ({ u with pending := s.pending } : State) = s.readHeader := by
      rw [hu]
      exact readHeader_pending s [] s.pending
    rw [exec_scanEnd hscan, exec_scanEnd hstart, hsame]
    rfl
  case opened =>
    have hexec : exec .startupScanEnd s = .next s.scanEnd.superviseSupply := by
      rw [exec_scanEnd hscan, if_pos rfl]
    have hframe := scanEnd_frame hempty
    have hslots := scanEnd_slot hempty
    have hseq := scanEnd_seq hempty
    have hport := scanEnd_port hempty
    have hat := scanEnd_at hempty
    have himage := scanEnd_image hempty
    obtain ⟨hsettings, hsupply, hok, hstartup, hmode, hresume, hframed, hidle, hrest⟩ :
        s.scanEnd.settings = s.settings ∧ s.scanEnd.supply = s.supply ∧ s.scanEnd.monitor = .ok ∧ s.scanEnd.startup = .running ∧
        s.scanEnd.mode = s.settings.startMode.mode ∧ s.scanEnd.resume = s.settings.startMode ∧
        s.scanEnd.frame = some ⟨s.settings.stepWidth, 1⟩ ∧ s.scanEnd.controller = .idle ∧ s.scanEnd = { s with
          startup := s.scanEnd.startup, mode := s.scanEnd.mode, resume := s.scanEnd.resume, frame := s.scanEnd.frame
          baseTick := 0, ports := s.scanEnd.ports, roster := s.scanEnd.roster, images := s.scanEnd.images
          nextSeq := s.scanEnd.nextSeq, controller := s.scanEnd.controller
          branches := s.scanEnd.branches, lanes := s.scanEnd.lanes } := by
      generalize s.scanLoud = w at hframe
      generalize s.scanDue = v at hframe
      generalize s.imaged.seqAfterScan = n at hframe
      generalize s.scanEnd = o at hframe ⊢
      rw [hframe]
      exact ⟨rfl, rfl, hmonitor, rfl, rfl, rfl, rfl, rfl, rfl⟩
    clear hframe
    have hforce : s.scanEnd.inForce = s.settings.startMode := inForce_eq_iff.mpr (.inl hmode)
    generalize s.scanEnd = o at *
    refine ⟨o, fun hfine => ?_, fun hlow halarm => ⟨?_, ?_, ?_, fun p => ?_⟩, fun hlow hreset => ?_, hstartup, hmode, hresume,
      hframed, hidle, hport, hat, himage, fun d => (hslots d).1, fun d => (hslots d).2.1, fun d body hbody => ?_, hseq.1,
      hseq.2.1, hseq.2.2, hrest⟩
    · rw [hexec]
      cases hm : s.settings.monitorMode with
      | alarm => rw [supervise_alarm_fine (by rw [hsettings, hm]) hok (by rwa [hsettings, hsupply])]
      | reset => rw [supervise_reset_fine (by rw [hsettings, hm]) hok (by rwa [hsettings, hsupply])]
    · rw [hexec, supervise_alarm_fall (by rw [hsettings, halarm]) hok (by rwa [hsettings, hsupply])]
    · rw [enterHold_frame]
    · rw [enterHold_frame]
      exact hforce
    · rw [enterHold_port]
      exact shows_raise_same _ _
    · rw [hexec, supervise_reset_fall (by rw [hsettings, hreset]) (by rwa [hsettings, hsupply])]
    · obtain ⟨hplot, hprovider, hloses, hwins⟩ := (hslots d).2.2 body hbody
      have hbeaten := beaten_iff (s := s.imaged) (d := d) (body := body)
      simp only [imaged_image] at hbeaten
      refine ⟨hplot, hprovider, fun h => hloses (hbeaten.mpr h), fun h => hwins ?_⟩
      rw [Bool.eq_false_iff]
      exact fun hb => h (hbeaten.mp hb)

end Sys2Proof.Machine

/-! PROOFS. What a piece of the part's work keeps of the laws of jobs, serials, presence records and generators. -/

namespace Sys2Proof.Machine

/-! The laws of serials and presence records (R4, R10, R96) -/

/-- The second state's entries keep their laws and take no new serial, and its arrivals lists hold no new serial. -/
structure RosterKept (s t : State) : Prop where
  entry : ∀ d, EntryKeeps (s.entry d) (t.entry d)
  arrivals : ∀ b, ((t.arrivalsOf b).items.map Arrival.serial).Sublist ((s.arrivalsOf b).items.map Arrival.serial)
  running : t.isRunning = s.isRunning

/-- The serials in the four arrivals lists. -/
def State.listedSerials (s : State) : List Serial := s.allArrivals.map Arrival.serial

theorem listedSerials_eq (s : State) :
    s.listedSerials = allBranches.flatMap fun b => (s.arrivalsOf b).items.map Arrival.serial := List.map_flatMap ..

theorem mem_listedSerials {s : State} {n : Serial} :
    n ∈ s.listedSerials ↔ ∃ b, n ∈ (s.arrivalsOf b).items.map Arrival.serial := by
  simp [listedSerials_eq, allBranches]

theorem sublist_flatMap {α β : Type} {f g : α → List β} (h : ∀ a, (f a).Sublist (g a)) (l : List α) :
    (l.flatMap f).Sublist (l.flatMap g) := by
  induction l with
  | nil => exact List.Sublist.refl _
  | cons a l ih => exact (h a).append ih

theorem RosterKept.listed {s t : State} (h : RosterKept s t) : t.listedSerials.Sublist s.listedSerials := by
  rw [listedSerials_eq, listedSerials_eq]
  exact sublist_flatMap h.arrivals _

/-- The laws of the serials, with the arrivals by their serials alone. -/
theorem serialInv_iff {s : State} : s.SerialInv ↔
    (∀ d : Drop, (s.entry d).serial.isSome = (s.entry d).state.bearsSerial) ∧
    (∀ d e : Drop, d ≠ e → (s.entry d).serial.isSome = true → (s.entry d).serial ≠ (s.entry e).serial) ∧
    (∀ b : Branch, ((s.arrivalsOf b).items.map Arrival.serial).length ≤ 8) ∧ s.listedSerials.Nodup ∧
    (∀ n ∈ s.listedSerials, ∀ d : Drop, (s.entry d).serial ≠ some n) ∧
    (s.isRunning = false → s.listedSerials = []) := by
  simp only [State.SerialInv, List.length_map, State.listedSerials, List.forall_mem_map, List.map_eq_nil_iff]

theorem RosterKept.serial {s t : State} (h : RosterKept s t) (hs : s.SerialInv) : t.SerialInv := by
  rw [serialInv_iff] at hs ⊢
  obtain ⟨hbears, hapart, hlength, hnodup, hfree, hidle⟩ := hs
  have hold (d : Drop) {n : Serial} (hn : (t.entry d).serial = some n) : (s.entry d).serial = some n := by
    rcases (h.entry d).serial with hsame | hnone
    · rw [← hsame, hn]
    · rw [hnone] at hn
      cases hn
  refine ⟨fun d => (h.entry d).bears (hbears d), fun d e hne hsome heq => ?_, fun b => ?_, hnodup.sublist h.listed,
    fun n hn d hd => hfree n (h.listed.subset hn) d (hold d hd), fun hrun => ?_⟩
  · obtain ⟨n, hn⟩ := Option.isSome_iff_exists.mp hsome
    have hd := hold d hn
    exact hapart d e hne (by rw [hd]; rfl) (hd.trans (hold e (heq.symm.trans hn)).symm)
  · exact (h.arrivals b).length_le.trans (hlength b)
  · rw [h.running] at hrun
    exact List.sublist_nil.mp (hidle hrun ▸ h.listed)

theorem RosterKept.presence {s t : State} (h : RosterKept s t) (hs : s.PresenceInv) : t.PresenceInv := fun d =>
  (h.entry d).presence (hs d)

/-! The bounds on the queues (R29, R34) -/

/-- The queues have the same lengths, no pending flag is new, and intake is as open as before. -/
structure Even (s t : State) : Prop where
  length : ∀ b, (t.queue b).length = (s.queue b).length
  flags : ∀ d, (t.entry d).rejoinPending = true → (s.entry d).rejoinPending = true
  intake : t.intakeOpen = s.intakeOpen
  running : t.isRunning = s.isRunning

theorem Even.refl (s : State) : Even s s := ⟨fun _ => rfl, fun _ h => h, rfl, rfl⟩

theorem Even.trans {s t u : State} (hst : Even s t) (htu : Even t u) : Even s u :=
  ⟨fun b => (htu.length b).trans (hst.length b), fun d h => hst.flags d (htu.flags d h), htu.intake.trans hst.intake,
    htu.running.trans hst.running⟩

theorem Even.full {s t : State} (h : Even s t) (hs : FullLaw s) : FullLaw t := fun hopen d hd => by
  rw [h.length]
  exact hs (h.intake.symm.trans hopen) d (h.flags d hd)

theorem Even.intakeLaw {s t : State} (h : Even s t) (hs : s.IntakeLaw) : t.IntakeLaw := fun hclosed b => by
  rw [h.intake, h.running] at hclosed
  have hempty := h.length b
  rw [hs hclosed b] at hempty
  exact List.length_eq_zero_iff.mp hempty

theorem JobWork.intake {s t : State} (h : JobWork s t) : t.intakeOpen = s.intakeOpen := by
  rw [h]
  rfl

theorem JobWork.running {s t : State} (h : JobWork s t) : t.isRunning = s.isRunning := by
  rw [h]
  rfl

theorem JobWork.arrivals {s t : State} (h : JobWork s t) (b : Branch) : t.arrivalsOf b = s.arrivalsOf b := by
  rw [h]
  rfl

/-! Work that keeps the laws -/

/-- The laws of the jobs, serials, presence records and generators go on from the first state to the second, but for the
bounds on the queues, which a departure lifts for a while. -/
structure CoreKept (s t : State) : Prop where
  core : JobCore t
  serial : s.SerialInv → t.SerialInv
  presence : s.PresenceInv → t.PresenceInv
  gen : s.GenInv → t.GenInv

theorem CoreKept.refl {s : State} (h : JobCore s) : CoreKept s s := ⟨h, id, id, id⟩

theorem CoreKept.trans {s t u : State} (hst : CoreKept s t) (htu : CoreKept t u) : CoreKept s u :=
  ⟨htu.core, htu.serial ∘ hst.serial, htu.presence ∘ hst.presence, htu.gen ∘ hst.gen⟩

theorem RosterKept.coreKept {s t : State} (h : RosterKept s t) (hcore : JobCore t) (hgen : s.GenInv → t.GenInv) :
    CoreKept s t := ⟨hcore, h.serial, h.presence, hgen⟩

/-- Every law goes on from the first state to the second. -/
structure Kept (s t : State) : Prop extends CoreKept s t where
  full : FullLaw s → FullLaw t
  intake : s.IntakeLaw → t.IntakeLaw

theorem Kept.refl {s : State} (h : JobCore s) : Kept s s := ⟨.refl h, id, id⟩

theorem Kept.trans {s t u : State} (hst : Kept s t) (htu : Kept t u) : Kept s u :=
  ⟨hst.toCoreKept.trans htu.toCoreKept, htu.full ∘ hst.full, htu.intake ∘ hst.intake⟩

theorem CoreKept.kept {s t : State} (h : CoreKept s t) (heven : Even s t) : Kept s t := ⟨h, heven.full, heven.intakeLaw⟩

/-! Work that leaves all that the laws read -/

/-- What the laws read of a job. -/
def Job.role (j : Job) : Drop × JobKind × Stage := (j.drop, j.kind, j.stage)

/-- The second state is the first for the laws, but that arrivals may have left. -/
structure Alike (s t : State) : Prop where
  queue : ∀ b, (t.queue b).map Job.role = (s.queue b).map Job.role
  marks : ∀ b, (t.branch b).frameMarks.isSome = (s.branch b).frameMarks.isSome
  entry : ∀ d, EntryAlike (s.entry d) (t.entry d)
  gen : ∀ g, SameWave (s.gen g) (t.gen g)
  arrivals : ∀ b, ((t.arrivalsOf b).items.map Arrival.serial).Sublist ((s.arrivalsOf b).items.map Arrival.serial)
  running : t.isRunning = s.isRunning
  intake : t.intakeOpen = s.intakeOpen

theorem Alike.refl (s : State) : Alike s s :=
  ⟨fun _ => rfl, fun _ => rfl, fun _ => .refl _, fun _ => .refl _, fun _ => .refl _, rfl, rfl⟩

theorem Alike.trans {s t u : State} (hst : Alike s t) (htu : Alike t u) : Alike s u where
  queue b := (htu.queue b).trans (hst.queue b)
  marks b := (htu.marks b).trans (hst.marks b)
  entry d := (hst.entry d).trans (htu.entry d)
  gen g := (hst.gen g).trans (htu.gen g)
  arrivals b := (htu.arrivals b).trans (hst.arrivals b)
  running := htu.running.trans hst.running
  intake := htu.intake.trans hst.intake

theorem Alike.foldl {α : Type} {f : State → α → State} (h : ∀ s a, Alike s (f s a)) (l : List α) (s : State) :
    Alike s (l.foldl f s) := foldl_keeps (fun u a hu => hu.trans (h u a)) l (.refl s)

/-- Work outside the branches, the roster, the generators, the arrivals and the modes. -/
theorem Alike.of_parts {s t : State} (hbranches : t.branches = s.branches) (hroster : t.roster = s.roster)
    (hgens : t.generators = s.generators) (harrivals : t.arrivals = s.arrivals) (hstartup : t.startup = s.startup)
    (hmode : t.mode = s.mode) (hresume : t.resume = s.resume) : Alike s t where
  queue b := by rw [State.queue, State.branch, hbranches]; rfl
  marks b := by rw [State.branch, hbranches]; rfl
  entry d := by rw [State.entry, State.entry, hroster]; exact .refl _
  gen g := by rw [State.gen, State.gen, hgens]; exact .refl _
  arrivals b := by simp only [State.arrivalsOf, harrivals, List.Sublist.refl]
  running := by rw [State.isRunning, hstartup]; rfl
  intake := by rw [State.intakeOpen, hmode, hresume]; rfl

theorem paired_role {st : EntryState} {j k : Job} (h : j.role = k.role) : paired st (some j) = paired st (some k) := by
  obtain ⟨-, hkind, hstage⟩ : j.drop = k.drop ∧ j.kind = k.kind ∧ j.stage = k.stage := by simpa [Job.role] using h
  simp only [paired, hkind, hstage]

theorem dropLaw_role {e : Entry} {j k : Option Job} (hrole : k.map Job.role = j.map Job.role) (h : DropLaw e j) :
    DropLaw e k := by
  cases j with
  | none =>
    rw [Option.map_none, Option.map_eq_none_iff] at hrole
    rwa [hrole]
  | some x =>
    obtain ⟨y, rfl, hy⟩ := Option.map_eq_some_iff.mp hrole
    refine ⟨by rw [paired_role hy]; exact h.paired, fun hflag => ?_⟩
    cases (h.pending hflag).2

theorem queueLaw_role {b : Branch} {q r : List Job} (hrole : r.map Job.role = q.map Job.role) (h : QueueLaw b q) :
    QueueLaw b r := by
  have hdrops : r.map Job.drop = q.map Job.drop := by
    have := congrArg (List.map Prod.fst) hrole
    simpa [Function.comp_def, Job.role] using this
  have hmem {P : Drop × JobKind × Stage → Prop} {q r : List Job} (hrole : r.map Job.role = q.map Job.role)
      (hq : ∀ j ∈ q, P j.role) : ∀ j ∈ r, P j.role := by
    rw [← List.forall_mem_map, hrole, List.forall_mem_map]
    exact hq
  refine ⟨?_, by rw [hdrops]; exact h.nodup, hmem (P := fun x => x.1.branch = b) hrole h.own,
    hmem (P := fun x => x.2.2 = .waiting) ?_ h.waiting⟩
  · rw [← List.length_map (f := Job.role), hrole, List.length_map]
    exact h.short
  · rw [List.map_tail, List.map_tail, hrole]

theorem Alike.jobOf {s t : State} (h : Alike s t) (d : Drop) : (t.jobOf d).map Job.role = (s.jobOf d).map Job.role := by
  have hfind (q : List Job) : (q.find? fun k => k.drop = d).map Job.role =
      (q.map Job.role).find? fun x => x.1 = d := by
    rw [List.find?_map]
    rfl
  rw [State.jobOf, State.jobOf, hfind, hfind, h.queue]

theorem Alike.core {s t : State} (h : Alike s t) (hcore : JobCore s) : JobCore t where
  queues b := queueLaw_role (h.queue b) (hcore.queues b)
  drops d := dropLaw_role (h.jobOf d) ((h.entry d).dropLaw (hcore.drops d))

/-- A head job of this role serves the drop. -/
def roleServes (d : Drop) (counting : Bool) : Option (Drop × JobKind × Stage) → Bool
  | some x => x.1 = d && ((x.2.2 = .waitTrace && counting) || x.2.2 = .matching)
  | none => false

theorem serves_eq (s : State) (b : Branch) (d : Drop) :
    s.serves b d = roleServes d (s.branch b).frameMarks.isSome ((s.queue b).map Job.role).head? := by
  unfold State.serves
  cases s.queue b <;> rfl

theorem Alike.serves {s t : State} (h : Alike s t) (b : Branch) (d : Drop) : t.serves b d = s.serves b d := by
  rw [serves_eq, serves_eq, h.queue, h.marks]

theorem Alike.even {s t : State} (h : Alike s t) : Even s t where
  length b := by rw [← List.length_map (f := Job.role), h.queue, List.length_map]
  flags d hd := by rwa [(h.entry d).pending] at hd
  intake := h.intake
  running := h.running

theorem Alike.rosterKept {s t : State} (h : Alike s t) : RosterKept s t :=
  ⟨fun d => (h.entry d).keeps, h.arrivals, h.running⟩

theorem Alike.kept {s t : State} (h : Alike s t) (hcore : JobCore s) : Kept s t :=
  (h.rosterKept.coreKept (h.core hcore) fun hgen => genInv_of_fewer hgen (fun g => .inr (h.gen g))
    fun _ d b _ hserves => (h.serves b d).trans hserves).kept h.even

end Sys2Proof.Machine

/-! PROOFS. The work that leaves all that the laws of jobs, serials, presence records and generators read. -/

namespace Sys2Proof.Machine

/-! Ports, lanes, claims and the table of unknown kinds -/

section
variable (s : State)

theorem alike_raise (e : Event) : Alike s (s.raise e) := .of_parts rfl rfl rfl rfl rfl rfl rfl

theorem alike_raiseWhen (p : Prop) [Decidable p] (e : Event) : Alike s (s.raiseWhen p e) := by
  unfold State.raiseWhen
  split
  · exact alike_raise s e
  · exact .refl s

theorem alike_raiseIf (ev : Option Event) : Alike s (s.raiseIf ev) := by
  cases ev with
  | none => exact .refl s
  | some e => exact alike_raise s e

theorem alike_setPort (p : Port) (v : PortRecord) : Alike s (s.setPort p v) := .of_parts rfl rfl rfl rfl rfl rfl rfl

theorem alike_setLane (b : Branch) (l : Lane) : Alike s (s.setLane b l) := .of_parts rfl rfl rfl rfl rfl rfl rfl

theorem alike_setClaim (d : Drop) (c : Option Claim) : Alike s (s.setClaim d c) := .of_parts rfl rfl rfl rfl rfl rfl rfl

theorem alike_sendCall (b : Branch) (c : Call) : Alike s (s.sendCall b c) := alike_setLane s b _

theorem alike_loseClaim (f : FieldPort) (d : Drop) : Alike s (s.loseClaim f d) := .of_parts rfl rfl rfl rfl rfl rfl rfl

theorem alike_reportFault (b : Branch) (k : FaultKind) : Alike s (s.reportFault b k) := by
  unfold State.reportFault
  split
  · exact (alike_setLane s b _).trans (alike_raise _ _)
  · exact .refl s

theorem alike_reportFound (b : Branch) (faults : List FaultKind) : Alike s (s.reportFound b faults) :=
  .foldl (fun t k => alike_reportFault t b k) faults s

theorem alike_afterPreamble (b : Branch) (faults : List FaultKind) : Alike s (s.afterPreamble b faults) := by
  unfold State.afterPreamble
  split
  · exact (alike_setLane s b _).trans (alike_raise _ _)
  · exact .refl s

theorem alike_ignoreBurst (b : Branch) (x : Burst) : Alike s (s.ignoreBurst b x) := alike_setLane s b _

theorem alike_noteProvider (b : Branch) (t : BitVec 3) : Alike s (s.noteProvider b t) := by
  unfold State.noteProvider
  split
  · exact .refl s
  · dsimp only
    split
    · exact (alike_setLane s b _).trans (alike_reportFault _ b _)
    · exact alike_setLane s b _

theorem alike_offerUnknown (b : Branch) (kind : BitVec 4) : Alike s (s.offerUnknown b kind) := by
  have hset (u : UnknownTable) : Alike s { s with unknown := u } := .of_parts rfl rfl rfl rfl rfl rfl rfl
  unfold State.offerUnknown
  split
  · exact .refl s
  · split
    · exact (hset _).trans (alike_raise _ _)
    · split
      · exact .refl s
      · exact (hset _).trans (alike_raise _ _)

theorem alike_respond (r : Request) (kind : Byte) (a : Answer) : Alike s (s.respond r kind a) :=
  .of_parts rfl rfl rfl rfl rfl rfl rfl

theorem alike_sendOut (p : Port) : Alike s (s.sendOut p) := by
  unfold State.sendOut
  split
  · exact alike_setPort s p _
  · exact .refl s

/-! Arrivals that leave or stand (R96, R99, R103) -/

theorem alike_arrivals {t : State} (hframe : t = { s with arrivals := t.arrivals, ageLimitRead := t.ageLimitRead })
    (harrivals : ∀ b, ((t.arrivalsOf b).items.map Arrival.serial).Sublist ((s.arrivalsOf b).items.map Arrival.serial)) :
    Alike s t where
  queue b := by rw [hframe]; rfl
  marks b := by rw [hframe]; rfl
  entry d := by rw [hframe]; exact .refl _
  gen g := by rw [hframe]; exact .refl _
  arrivals := harrivals
  running := by rw [hframe]; rfl
  intake := by rw [hframe]; rfl

theorem alike_unlist (n : Serial) : Alike s (s.unlist n) := alike_arrivals s rfl fun b => by
  rw [unlist_arrivalsOf]
  exact List.filter_sublist.map _

theorem alike_setArrivals {b : Branch} {l : ArrivalsList}
    (h : (l.items.map Arrival.serial).Sublist ((s.arrivalsOf b).items.map Arrival.serial)) : Alike s (s.setArrivals b l) :=
  alike_arrivals s rfl fun c => by
    rw [State.setArrivals_arrivalsOf]
    split
    next hbc => rwa [← hbc]
    next => exact .refl _

theorem alike_ageOut (b : Branch) (n : Serial) : Alike s (s.ageOut b n) := alike_setArrivals s (List.filter_sublist.map _)

theorem refresh_serial (st : Settings) (r : Report) (a : Arrival) : (a.refresh st r).serial = a.serial := rfl

theorem alike_refreshArrival (b : Branch) (r : Report) : Alike s (s.refreshArrival b r) := by
  refine alike_setArrivals s ?_
  rw [List.map_map]
  have hsame : (Arrival.serial ∘ fun a : Arrival => if a.serial = r.serial then a.refresh s.settings r else a) =
      Arrival.serial := by
    funext a
    simp only [Function.comp]
    split
    · exact refresh_serial ..
    · rfl
  rw [hsame]

theorem alike_tickArrivals : Alike s s.tickArrivals := by
  refine alike_arrivals s rfl fun b => ?_
  have htick : s.tickArrivals.arrivalsOf b = (s.arrivalsOf b).tick s.settings.ageLimit := by
    simp [State.tickArrivals, State.arrivalsOf]
  have hserials : ((s.arrivalsOf b).items.map Arrival.tick).map Arrival.serial =
      (s.arrivalsOf b).items.map Arrival.serial := by
    rw [List.map_map]
    rfl
  rw [htick, ← hserials]
  exact List.filter_sublist.map _

theorem alike_tickLeases : Alike s s.tickLeases := by
  have hclaims (c : Vector (Option Claim) 64) : Alike s { s with claims := c } := .of_parts rfl rfl rfl rfl rfl rfl rfl
  exact hclaims _

/-! Echo records (R119) -/

theorem alike_takeEcho (n : Serial) (b : Branch) (obs : Steps) (bound : Option Drop) : Alike s (s.takeEcho n b obs bound) := by
  have hset (g : Gen) (r : EchoRecord) : Alike s (s.setGen g { s.gen g with echo := r }) :=
    ⟨fun _ => rfl, fun _ => rfl, fun _ => .refl _, fun h => by
      rw [State.setGen_gen]
      split
      next hgh => rw [← hgh]; exact ⟨rfl, rfl, rfl⟩
      next => exact .refl _, fun _ => .refl _, rfl, rfl⟩
  unfold State.takeEcho
  split
  · split
    · exact hset _ _
    · exact .refl s
  · exact .refl s

/-! Entries and branches -/

theorem alike_setEntry {d : Drop} {e : Entry} (h : EntryAlike (s.entry d) e) : Alike s (s.setEntry d e) where
  queue _ := rfl
  marks _ := rfl
  entry f := by
    rw [State.setEntry_entry]
    split
    next hdf => rwa [← hdf]
    next => exact .refl _
  gen _ := .refl _
  arrivals _ := .refl _
  running := rfl
  intake := rfl

theorem alike_branches {t : State} (hframe : t = { s with branches := t.branches })
    (hqueue : ∀ b, (t.queue b).map Job.role = (s.queue b).map Job.role)
    (hmarks : ∀ b, (t.branch b).frameMarks.isSome = (s.branch b).frameMarks.isSome) : Alike s t where
  queue := hqueue
  marks := hmarks
  entry d := by rw [hframe]; exact .refl _
  gen g := by rw [hframe]; exact .refl _
  arrivals b := by rw [hframe]; exact .refl _
  running := by rw [hframe]; rfl
  intake := by rw [hframe]; rfl

theorem alike_setBranch {b : Branch} {c : BranchCtl} (hqueue : c.queue.map Job.role = (s.queue b).map Job.role)
    (hmarks : c.frameMarks.isSome = (s.branch b).frameMarks.isSome) : Alike s (s.setBranch b c) := by
  refine alike_branches s rfl (fun x => ?_) fun x => ?_
  · rw [State.queue, State.setBranch_branch]
    split
    next hbx => rw [hqueue, hbx]
    next => rfl
  · rw [State.setBranch_branch]
    split
    next hbx => rw [hmarks, hbx]
    next => rfl

theorem alike_dueOpenCalls : Alike s s.dueOpenCalls := by
  refine alike_branches s rfl (fun b => ?_) fun b => ?_
  · rw [State.queue, dueOpenCalls_branch]
    rfl
  · rw [dueOpenCalls_branch]

theorem alike_pass : Alike s { s with branches := Vector.ofFn fun b : Fin 4 => (s.branches[b]).pass } := by
  have hbranch (b : Branch) : ({ s with branches := Vector.ofFn fun b : Fin 4 => (s.branches[b]).pass } : State).branch b =
      (s.branch b).pass := by simp [State.branch]
  refine alike_branches s rfl (fun b => ?_) fun b => ?_
  · rw [State.queue, hbranch]
    rfl
  · rw [hbranch]
    rfl

/-! The grant of a window (R36) -/

theorem alike_setQueue {b : Branch} {q : List Job} (hrole : q.map Job.role = (s.queue b).map Job.role) :
    Alike s (s.setQueue b q) := alike_setBranch s hrole rfl

theorem alike_openCall (b : Branch) : Alike s (s.openCall b) :=
  (alike_setBranch s (b := b) (c := { s.branch b with window := .openCall, listenMs := some 300, openDue := false }) rfl
    rfl).trans (alike_sendCall _ b _)

theorem alike_countAttempt (b : Branch) : Alike s (s.setHead b fun j => { j with attempts := j.attempts + 1 }) := by
  unfold State.setHead
  split
  next j js hqueue => exact alike_setQueue s (by rw [hqueue]; rfl)
  next => exact .refl s

theorem alike_grant (b : Branch) : Alike s (s.grant b) := by
  rcases grant_cases s b with h | h | h | ⟨j, js, -, -, h⟩ <;> rw [h]
  · exact .refl s
  · exact alike_openCall s b
  · refine (alike_countAttempt s b).trans (Alike.trans (alike_setBranch _ ?_ ?_) (alike_sendCall _ b _)) <;> rfl
  · refine (alike_countAttempt s b).trans (Alike.trans (alike_setBranch _ ?_ ?_)
      ((alike_setLane _ b _).trans (alike_sendCall _ b _))) <;> rfl

theorem alike_grants : Alike s (allBranches.foldl (fun t b => t.grant b) s) := .foldl alike_grant _ s

theorem alike_endListening (b : Branch) : Alike s (s.setBranch b (s.branch b).endListening) := alike_setBranch s rfl rfl

end

end Sys2Proof.Machine

/-! PROOFS. The generators' laws while generators detach, are given and are offered (R107, R115 to R117). -/

namespace Sys2Proof.Machine

theorem TraceWork.coreKept {s t : State} (h : TraceWork s t) (hcore : JobCore s) (hgen : s.GenInv → t.GenInv) :
    CoreKept s t := by
  have hentry (d : Drop) : t.entry d = s.entry d := by rw [h.frame]; rfl
  refine RosterKept.coreKept ⟨fun d => ?_, fun b => ?_, h.jobWork.running⟩ ⟨fun b => ?_, fun d => ?_⟩ hgen
  · rw [hentry]
    exact .refl _
  · rw [h.jobWork.arrivals]
  · rw [h.queue]
    exact hcore.queues b
  · rw [hentry, State.jobOf, h.queue]
    exact hcore.drops d

theorem TraceWork.even {s t : State} (h : TraceWork s t) : Even s t where
  length b := by rw [h.queue]
  flags d hd := by
    rw [h.frame] at hd
    exact hd
  intake := h.jobWork.intake
  running := h.jobWork.running

theorem TraceWork.kept {s t : State} (h : TraceWork s t) (hcore : JobCore s) (hgen : s.GenInv → t.GenInv) : Kept s t :=
  (h.coreKept hcore hgen).kept h.even

section
variable {s : State}

/-! Detachment (R115) -/

theorem detachWhere_attached (p : Generator → Bool) (g : Gen) :
    ((s.detachWhere p).gen g).attached = none ∨ (s.detachWhere p).gen g = s.gen g := by
  rw [detachWhere_gen]
  split
  · exact .inl rfl
  · exact .inr rfl

theorem genInv_detachWhere (p : Generator → Bool) (hs : s.GenInv) : (s.detachWhere p).GenInv :=
  genInv_of_fewer hs (fun g => (detachWhere_attached p g).imp_right fun h => by rw [h]; exact .refl _)
    fun _ _ _ _ h => h

theorem laws_detachWhere (hcore : JobCore s) (p : Generator → Bool) : Kept s (s.detachWhere p) :=
  (traceWork_detachWhere s p).kept hcore (genInv_detachWhere p)

/-! A generator given to a binding job (R116) -/

theorem giveGenerator_serves {b : Branch} {j : Job} {js : List Job} (hqueue : s.queue b = j :: js)
    (hstage : j.stage = .waitTrace) (g : Gen) : (s.giveGenerator b g).serves b j.drop = true := by
  have hqueue' : (s.giveGenerator b g).queue b = j :: js := ((traceWork_giveGenerator s b g).queue b).trans hqueue
  have hmarks : ((s.giveGenerator b g).branch b).frameMarks = some 0 := by rw [giveGenerator_branch hqueue, if_pos rfl]
  simp [State.serves, hqueue', hmarks, hstage]

theorem giveGenerator_serves_ne {b c : Branch} (hne : c ≠ b) (g : Gen) (d : Drop) :
    (s.giveGenerator b g).serves c d = s.serves c d := by
  cases hqueue : s.queue b with
  | nil =>
    have hsame : s.giveGenerator b g = s := by simp only [State.giveGenerator, hqueue]
    rw [hsame]
  | cons j js =>
    rw [State.serves, State.serves, (traceWork_giveGenerator s b g).queue, giveGenerator_branch hqueue, if_neg hne.symm]

/-- A generator given to an eligible job plays for it alone, whatever it played before (R107, R111, R116). -/
theorem genInv_giveGenerator {b : Branch} {g : Gen} (hs : s.GenInv) (hwait : s.bindingWait b = some .eligible) :
    (s.giveGenerator b g).GenInv := by
  obtain ⟨j, js, hqueue, hstage, hmarks, hon⟩ := bindingWait_eq_some hwait
  have hoff : s.genOn j.drop = none := by
    cases h : s.genOn j.drop with
    | none => rfl
    | some x =>
      rw [h] at hon
      cases hon
  have hidle (d : Drop) : s.serves b d = false := serves_of_waiting hqueue (.inl ⟨hstage, hmarks⟩) d
  have hcode : Generator.observed ⟨some (j.drop, .binding b), bindingCode b, 12, .cleared⟩ = bindingCode b :=
    observedOf_bindingCode b
  refine genInv_attach hs (g := g) (d := j.drop) (o := .binding b) rfl
    ((giveGenerator_gen hqueue g g).trans (if_pos rfl))
    (fun h hh => (giveGenerator_gen hqueue g h).trans (if_neg hh.symm))
    (fun h _ a ha hd => genOn_eq_none_iff.mp hoff h a ha hd) (fun h _ hsome => ?_) ?_ fun h _ e c _ hserves => ?_
  · rw [hcode]
    obtain ⟨⟨e, o⟩, ha⟩ := Option.isSome_iff_exists.mp hsome
    cases o with
    | port p => exact observed_ne_of_port hs b ha
    | binding c =>
      rw [observed_of_binding hs ha]
      intro heq
      rw [bindingCode_injective heq] at ha
      exact no_binding_of_not_serving hs (hidle e) ha
  · rw [playsRight_binding rfl, giveGenerator_serves hqueue hstage]
    simp
  · by_cases hc : c = b
    · rw [hc, hidle] at hserves
      cases hserves
    · rwa [giveGenerator_serves_ne hc]

theorem laws_giveGenerator {b : Branch} (g : Gen) (hcore : JobCore s) (hwait : s.bindingWait b = some .eligible) :
    Kept s (s.giveGenerator b g) :=
  (traceWork_giveGenerator s b g).kept hcore fun hs => genInv_giveGenerator hs hwait

theorem laws_requestGenerator (hcore : JobCore s) (b : Branch) : Kept s (s.requestGenerator b) := by
  rcases requestGenerator_cases s b with h | ⟨g, hwait, -, h⟩ <;> rw [h]
  · exact .refl hcore
  · exact laws_giveGenerator g hcore hwait

/-! Freed generators on offer (R117) -/

theorem laws_offer (hcore : JobCore s) (g : Gen) : Kept s (s.offer g) := by
  rcases offer_cases s g with h | ⟨b, hwait, h⟩ <;> rw [h]
  · exact .refl hcore
  · exact laws_giveGenerator g hcore hwait

/-- Work done piece by piece keeps the laws when each piece does. -/
theorem Kept.foldl {α : Type} {f : State → α → State} (h : ∀ {s : State} (a), JobCore s → Kept s (f s a)) (l : List α)
    {s : State} (hcore : JobCore s) : Kept s (l.foldl f s) :=
  foldl_keeps (fun _ a hu => hu.trans (h a hu.core)) l (.refl hcore)

theorem laws_offerAll (hcore : JobCore s) (gs : List Gen) : Kept s (s.offerAll gs) :=
  .foldl (fun g hcore => laws_offer hcore g) gs hcore

theorem laws_detachAndOffer (hcore : JobCore s) (p : Generator → Bool) : Kept s (s.detachAndOffer p) := by
  have hdetached := laws_detachWhere hcore p
  exact hdetached.trans (laws_offerAll hdetached.core _)

/-! Claims that end with their generators (R137 to R139) -/

theorem laws_releaseClaim (hcore : JobCore s) (f : FieldPort) (d : Drop) : Kept s (s.releaseClaim f d) := by
  have hfreed := laws_detachAndOffer hcore (Generator.tracedBy f d)
  exact hfreed.trans ((alike_setClaim _ d none).kept hfreed.core)

theorem laws_revokeClaim (hcore : JobCore s) (f : FieldPort) (d : Drop) : Kept s (s.revokeClaim f d) := by
  have hfreed := laws_detachAndOffer hcore (Generator.tracedBy f d)
  exact hfreed.trans ((alike_loseClaim _ f d).kept hfreed.core)

theorem laws_lapseAll (hcore : JobCore s) : Kept s s.lapseAll := by
  have hdetached := laws_detachWhere hcore s.lapsing
  have hended : Alike (s.detachWhere s.lapsing) (allDrops.foldl s.endLease (s.detachWhere s.lapsing)) :=
    .foldl (fun t d => by
      unfold State.endLease
      split
      · exact alike_loseClaim t _ d
      · exact .refl t) _ _
  have hboth := hdetached.trans (hended.kept hdetached.core)
  rw [lapseAll_eq]
  exact hboth.trans (laws_offerAll hboth.core _)

theorem laws_minuteTick (hcore : JobCore s) : Kept s s.minuteTick := by
  have hticks := ((alike_tickArrivals s).trans (alike_tickLeases _)).kept hcore
  exact hticks.trans (laws_lapseAll hticks.core)

end

end Sys2Proof.Machine

/-! PROOFS. The laws while an entry changes, and while the head job of a branch moves on with its entry (R11, R14, R39). -/

namespace Sys2Proof.Machine

section
variable {s : State}

/-! One entry -/

theorem DropLaw.clear {e : Entry} {j : Job} (h : DropLaw e (some j)) : e.rejoinPending = false := by
  rw [Bool.eq_false_iff]
  intro hflag
  cases (h.pending hflag).2

theorem setEntry_self (s : State) (d : Drop) : s.setEntry d (s.entry d) = s := by
  simp [State.setEntry, State.entry]

theorem rosterKept_setEntry {d : Drop} {e : Entry} (h : EntryKeeps (s.entry d) e) : RosterKept s (s.setEntry d e) where
  entry f := by
    rw [State.setEntry_entry]
    split
    next hdf => rwa [← hdf]
    next => exact .refl _
  arrivals _ := .refl _
  running := rfl

theorem jobCore_setEntry (hcore : JobCore s) {d : Drop} {e : Entry} (h : DropLaw e (s.jobOf d)) : JobCore (s.setEntry d e) :=
  jobCore_at hcore d (fun _ _ => rfl) (hcore.queues _) (fun _ hf => State.setEntry_entry_ne _ _ _ _ hf.symm)
    (fun _ _ _ => rfl) (by rw [State.setEntry_entry_same]; exact h)

theorem even_setEntry {d : Drop} {e : Entry} (h : e.rejoinPending = true → (s.entry d).rejoinPending = true) :
    Even s (s.setEntry d e) where
  length _ := rfl
  flags f hf := by
    rw [State.setEntry_entry] at hf
    split at hf
    next hdf => rw [← hdf]; exact h hf
    next => exact hf
  intake := rfl
  running := rfl

/-- An entry that changes as its drop's job allows keeps every law. -/
theorem laws_setEntry (hcore : JobCore s) {d : Drop} {e : Entry} (hkeeps : EntryKeeps (s.entry d) e)
    (hlaw : DropLaw e (s.jobOf d)) (hflag : e.rejoinPending = true → (s.entry d).rejoinPending = true) :
    Kept s (s.setEntry d e) :=
  ((rosterKept_setEntry hkeeps).coreKept (jobCore_setEntry hcore hlaw) id).kept (even_setEntry hflag)

/-! The head job and its entry -/

/-- The head job of a branch is replaced by one of the same drop, and its entry with it. -/
def State.moveHead (s : State) (b : Branch) (c : BranchCtl) (d : Drop) (e : Entry) : State :=
  (s.setBranch b c).setEntry d e

variable {b : Branch} {c : BranchCtl} {e : Entry} {j k : Job} {js : List Job}

theorem moveHead_branch (s : State) (b : Branch) (c : BranchCtl) (d : Drop) (e : Entry) (x : Branch) :
    (s.moveHead b c d e).branch x = if b = x then c else s.branch x := State.setBranch_branch ..

theorem moveHead_entry (s : State) (b : Branch) (c : BranchCtl) (d : Drop) (e : Entry) (x : Drop) :
    (s.moveHead b c d e).entry x = if d = x then e else s.entry x := State.setEntry_entry ..

theorem moveHead_queue_ne {x : Branch} (hne : x ≠ b) (d : Drop) : (s.moveHead b c d e).queue x = s.queue x := by
  rw [State.queue, moveHead_branch, if_neg hne.symm]
  rfl

theorem moveHead_queue (d : Drop) : (s.moveHead b c d e).queue b = c.queue := by
  rw [State.queue, moveHead_branch, if_pos rfl]

theorem jobCore_moveHead (hcore : JobCore s) (hqueue : s.queue b = j :: js) (hdrop : k.drop = j.drop)
    (hc : c.queue = k :: js) (hpair : DropLaw e (some k)) : JobCore (s.moveHead b c j.drop e) :=
  jobCore_head hcore hqueue hdrop ((moveHead_queue _).trans hc) (fun _ hx => moveHead_queue_ne hx _)
    (fun x hx => (moveHead_entry ..).trans (if_neg hx.symm)) (by rw [moveHead_entry, if_pos rfl]; exact hpair)

theorem even_moveHead (hqueue : s.queue b = j :: js) (hc : c.queue = k :: js) (hclear : e.rejoinPending = false) :
    Even s (s.moveHead b c j.drop e) where
  length x := by
    by_cases hx : x = b
    · rw [hx, moveHead_queue, hc, hqueue]
      rfl
    · rw [moveHead_queue_ne hx]
  flags x hx := by
    rw [moveHead_entry] at hx
    split at hx
    · rw [hclear] at hx
      cases hx
    · exact hx
  intake := rfl
  running := rfl

/-- The job counts frames with a generator of its own, or matches: it is one that a binding generator serves. -/
def Job.bindsWith (j : Job) (c : BranchCtl) : Prop := (j.stage = .waitTrace ∧ c.frameMarks.isSome = true) ∨ j.stage = .matching

theorem serves_iff {d : Drop} : s.serves b d = true ↔ ∃ j js, s.queue b = j :: js ∧ j.drop = d ∧ j.bindsWith (s.branch b) := by
  unfold State.serves Job.bindsWith
  cases hqueue : s.queue b with
  | nil => simp
  | cons j js => simp

theorem moveHead_serves (hqueue : s.queue b = j :: js) (hdrop : k.drop = j.drop) (hc : c.queue = k :: js)
    (hbinds : j.bindsWith (s.branch b) → k.bindsWith c) {x : Branch} {d : Drop} (h : s.serves x d = true) :
    (s.moveHead b c j.drop e).serves x d = true := by
  by_cases hx : x = b
  · subst hx
    obtain ⟨i, is, hi, hd, hb⟩ := serves_iff.mp h
    rw [hqueue, List.cons.injEq] at hi
    obtain ⟨rfl, rfl⟩ := hi
    refine serves_iff.mpr ⟨k, js, (moveHead_queue _).trans hc, hdrop.trans hd, ?_⟩
    rw [moveHead_branch, if_pos rfl]
    exact hbinds hb
  · rw [State.serves, moveHead_queue_ne hx, moveHead_branch, if_neg (Ne.symm hx)]
    exact h

theorem genInv_moveHead (hqueue : s.queue b = j :: js) (hdrop : k.drop = j.drop) (hc : c.queue = k :: js)
    (hbinds : j.bindsWith (s.branch b) → k.bindsWith c) (hs : s.GenInv) : (s.moveHead b c j.drop e).GenInv :=
  genInv_of_fewer hs (fun _ => .inr (.refl _)) fun _ _ _ _ h => moveHead_serves hqueue hdrop hc hbinds h

/-- A head job that moves on with its entry keeps every law. -/
theorem laws_moveHead (hcore : JobCore s) (hqueue : s.queue b = j :: js) (hdrop : k.drop = j.drop)
    (hc : c.queue = k :: js) (hkeeps : EntryKeeps (s.entry j.drop) e) (hpair : DropLaw e (some k))
    (hbinds : j.bindsWith (s.branch b) → k.bindsWith c) : Kept s (s.moveHead b c j.drop e) :=
  CoreKept.kept (RosterKept.coreKept ⟨fun x => by
      rw [moveHead_entry]
      split
      next hx => rwa [← hx]
      next => exact .refl _, fun _ => .refl _, rfl⟩
    (jobCore_moveHead hcore hqueue hdrop hc hpair) (genInv_moveHead hqueue hdrop hc hbinds))
    (even_moveHead hqueue hc hpair.clear)

/-! The start of a head job (R39) -/

theorem dropLaw_head (hcore : JobCore s) (hqueue : s.queue b = j :: js) : DropLaw (s.entry j.drop) (some j) := by
  have hlaw := hcore.drops j.drop
  rwa [(jobOf_head hcore hqueue).2] at hlaw

theorem laws_startHead (hcore : JobCore s) (b : Branch) : Kept s (s.startHead b) := by
  rcases startHead_cases s b with h | ⟨j, js, hqueue, -, hstage, hkind, h⟩ | ⟨j, js, hqueue, -, hstage, hkind, h⟩ <;> rw [h]
  · exact .refl hcore
  · have hlaw := dropLaw_head hcore hqueue
    have hplanned : (s.entry j.drop).state = .planned := by simpa [paired, hstage, hkind] using hlaw.paired
    have hmoved := laws_moveHead (k := { j with stage := .waitTrace })
      (c := { s.branch b with queue := { j with stage := .waitTrace } :: js }) hcore hqueue rfl rfl (.refl _)
      ⟨by simp [paired, hkind, hplanned], fun hflag => (by rw [hlaw.clear] at hflag; cases hflag)⟩
      (fun hb => by simp [Job.bindsWith, hstage] at hb)
    have hsame : s.moveHead b { s.branch b with queue := { j with stage := .waitTrace } :: js } j.drop (s.entry j.drop) =
        s.setQueue b ({ j with stage := .waitTrace } :: js) := setEntry_self (s.setQueue b _) j.drop
    rw [hsame] at hmoved
    exact hmoved.trans (laws_requestGenerator hmoved.core b)
  · have hlaw := dropLaw_head hcore hqueue
    have hbound : (s.entry j.drop).state = .bound := by simpa [paired, hstage, hkind] using hlaw.paired
    have hclear := enter_ranging_clear hlaw.clear
    exact laws_moveHead (k := { j with stage := .range, attempts := 0 })
      (c := { s.branch b with queue := { j with stage := .range, attempts := 0 } :: js }) hcore hqueue rfl rfl
      (keeps_enter_ranging hbound)
      ⟨by simp [paired, enter_state], fun hflag => (by rw [hclear] at hflag; cases hflag)⟩
      (fun hb => by simp [Job.bindsWith, hstage] at hb)

theorem laws_grant (hcore : JobCore s) (b : Branch) : Kept s (s.grant b) := (alike_grant s b).kept hcore

theorem laws_proceed (hcore : JobCore s) (b : Branch) : Kept s (s.proceed b) := by
  have hstarted := laws_startHead hcore b
  exact hstarted.trans (laws_grant hstarted.core b)

theorem laws_proceedAll (hcore : JobCore s) : Kept s s.proceedAll := by
  have hstarted : Kept s ((turnAfter s.lastServed).foldl (fun t b => t.startHead b) s) :=
    .foldl (fun b hcore => laws_startHead hcore b) _ hcore
  exact hstarted.trans ((alike_grants _).kept hstarted.core)

/-! The frame marks (R40) -/

theorem waitTrace_paired {st : EntryState} (hpaired : paired st (some j) = true) (hstage : j.stage = .waitTrace) :
    j.kind = .activate ∧ st = .planned := by
  cases hkind : j.kind with
  | activate => exact ⟨rfl, by simpa [paired, hstage, hkind] using hpaired⟩
  | rejoin => simp [paired, hstage, hkind] at hpaired

theorem laws_enterMatch (hcore : JobCore s) (b : Branch) : Kept s (s.enterMatch b) := by
  rcases enterMatch_cases s b with h | ⟨j, js, hqueue, hstage⟩
  · rw [h]
    exact .refl hcore
  · obtain ⟨hkind, hplanned⟩ := waitTrace_paired (dropLaw_head hcore hqueue).paired hstage
    have hmoved := laws_moveHead (k := { j with stage := .matching, attempts := 0 })
      (c := { s.branch b with frameMarks := none, queue := { j with stage := .matching, attempts := 0 } :: js })
      (e := (s.entry j.drop).enter .binding) hcore hqueue rfl rfl (keeps_enter_binding hplanned)
      ⟨by simp [paired, enter_state, hkind], fun hflag => by
        rw [enter_binding (by rw [hplanned]; decide)] at hflag
        cases hflag⟩
      (fun _ => .inr rfl)
    rw [enterMatch_eq hqueue hstage]
    exact hmoved.trans (laws_grant hmoved.core b)

theorem laws_branchMark (hcore : JobCore s) (changed : Bool) (b : Branch) : Kept s (s.branchMark changed b) := by
  rcases branchMark_cases changed s b with ⟨-, h⟩ | ⟨n, hmarks, h⟩
  · rw [h]
    exact .refl hcore
  · dsimp only at h
    rw [h]
    generalize (if changed then 1 else n + 1) = m
    have hcounted := (alike_setBranch s (b := b) (c := { s.branch b with frameMarks := some m }) rfl
      (by rw [hmarks]; rfl)).kept hcore
    split
    · exact hcounted.trans (laws_enterMatch hcounted.core b)
    · exact hcounted

theorem laws_frameMark (hcore : JobCore s) : Kept s s.frameMark := by
  unfold State.frameMark
  split
  · have hframe := (Alike.of_parts (s := s) (t := { s with frame := some ⟨s.settings.stepWidth, 1⟩ })
      rfl rfl rfl rfl rfl rfl rfl).kept hcore
    exact hframe.trans (.foldl (fun b hcore => laws_branchMark hcore _ b) _ hframe.core)
  · exact .refl hcore

theorem alike_traceStep (s : State) : Alike s s.traceStep := by
  unfold State.traceStep
  split
  · split
    · exact .of_parts rfl rfl rfl rfl rfl rfl rfl
    · exact .refl s
  · exact .refl s

end

end Sys2Proof.Machine

/-! PROOFS. The laws while jobs join a queue and leave it (R26, R31 to R34, R42). -/

namespace Sys2Proof.Machine

section
variable {s : State}

/-! A job joins at the tail (R26, R27) -/

section
variable {d : Drop} {k : JobKind} {r : Requester} {e : Entry}

/-- A drop's job joins its queue, and the drop's entry changes with it. -/
def State.joined (s : State) (d : Drop) (k : JobKind) (r : Requester) (e : Entry) : State :=
  (s.appendJob d k r).setEntry d e

theorem joined_queue (b : Branch) : (s.joined d k r e).queue b =
    if d.branch = b then s.queue b ++ [⟨d, k, .waiting, r, 0⟩] else s.queue b := appendJob_queue s d k r b

theorem joined_entry (f : Drop) : (s.joined d k r e).entry f = if d = f then e else s.entry f := State.setEntry_entry ..

theorem joined_marks (b : Branch) : ((s.joined d k r e).branch b).frameMarks = (s.branch b).frameMarks := by
  change ((s.setBranch d.branch _).branch b).frameMarks = _
  rw [State.setBranch_branch]
  split
  next hb => rw [hb]
  next => rfl

theorem joined_jobOf (hfree : s.jobOf d = none) : (s.joined d k r e).jobOf d = some ⟨d, k, .waiting, r, 0⟩ := by
  rw [State.jobOf] at hfree
  rw [State.jobOf, joined_queue, if_pos rfl, List.find?_append, hfree]
  simp

theorem joined_jobOf_ne {f : Drop} (hne : f ≠ d) : (s.joined d k r e).jobOf f = s.jobOf f := by
  rw [State.jobOf, joined_queue]
  split
  · rw [List.find?_append]
    simp [State.jobOf, hne.symm]
  · rfl

theorem joined_serves {b : Branch} {f : Drop} (h : s.serves b f = true) : (s.joined d k r e).serves b f = true := by
  obtain ⟨j, js, hqueue, hdrop, hbinds⟩ := serves_iff.mp h
  have hhead : ∃ is, (s.joined d k r e).queue b = j :: is := by
    rw [joined_queue, hqueue]
    split
    · exact ⟨_, rfl⟩
    · exact ⟨_, rfl⟩
  obtain ⟨is, his⟩ := hhead
  refine serves_iff.mpr ⟨j, is, his, hdrop, ?_⟩
  rw [Job.bindsWith, joined_marks]
  exact hbinds

theorem coreKept_joined (hcore : JobCore s) (hfree : s.jobOf d = none) (hroom : (s.queue d.branch).length < 6)
    (hkeeps : EntryKeeps (s.entry d) e) (hpair : DropLaw e (some ⟨d, k, .waiting, r, 0⟩)) :
    CoreKept s (s.joined d k r e) := by
  refine RosterKept.coreKept ⟨fun f => ?_, fun _ => .refl _, rfl⟩ ?_ fun hs =>
    genInv_of_fewer hs (fun _ => .inr (.refl _)) fun _ _ _ _ h => joined_serves h
  · rw [joined_entry]
    split
    next hdf => rwa [← hdf]
    next => exact .refl _
  · refine jobCore_at hcore d (fun b hb => ?_) ?_ (fun f hf => ?_) (fun f hf _ => joined_jobOf_ne hf) ?_
    · rw [joined_queue, if_neg hb.symm]
    · rw [joined_queue, if_pos rfl]
      exact queueLaw_append (hcore.queues _) hroom hfree rfl rfl
    · rw [joined_entry, if_neg hf.symm]
    · rw [joined_entry, if_pos rfl, joined_jobOf hfree]
      exact hpair

/-- With intake open a queue with room has no pending drop, so a job may join it (R34). -/
theorem laws_joined (hcore : JobCore s) (hfree : s.jobOf d = none) (hroom : (s.queue d.branch).length < 6)
    (hkeeps : EntryKeeps (s.entry d) e) (hpair : DropLaw e (some ⟨d, k, .waiting, r, 0⟩)) (hopen : s.intakeOpen = true)
    (hrun : s.isRunning = true) : Kept s (s.joined d k r e) where
  toCoreKept := coreKept_joined hcore hfree hroom hkeeps hpair
  full hs _ f hf := by
    rw [joined_entry] at hf
    split at hf
    · rw [hpair.clear] at hf
      cases hf
    · have hlength := hs hopen f hf
      rw [joined_queue, if_neg]
      · exact hlength
      · intro hb
        rw [← hb] at hlength
        omega
  intake _ hclosed := by
    have hno : ¬(s.intakeOpen = false ∨ s.isRunning = false) := by simp [hopen, hrun]
    exact absurd hclosed hno

theorem joined_self : s.joined d k r (s.entry d) = s.appendJob d k r := setEntry_self (s.appendJob d k r) d

end

/-! Pending drops get their jobs (R33, R34) -/

theorem keeps_clearFlag (e : Entry) : EntryKeeps e { e with rejoinPending := false } := ⟨id, id, .inl rfl⟩

theorem coreKept_queuePending (hcore : JobCore s) {d : Drop} (hflag : (s.entry d).rejoinPending = true)
    (hroom : (s.queue d.branch).length < 6) : CoreKept s (s.queuePending d) := by
  obtain ⟨hbound, hfree⟩ := (hcore.drops d).pending hflag
  exact coreKept_joined hcore hfree hroom (keeps_clearFlag _) ⟨by simp [paired, hbound], fun h => nomatch h⟩

theorem coreKept_refill (hcore : JobCore s) (b : Branch) : CoreKept s (s.refill b) := by
  rcases refill_cases s b with h | ⟨d, ds, -, hroom, hpending, h⟩ <;> rw [h]
  · exact .refl hcore
  · obtain ⟨rfl, hflag⟩ := mem_pendingDrops.mp (by rw [hpending]; exact List.mem_cons_self ..)
    exact coreKept_queuePending hcore hflag hroom

theorem coreKept_queueAll {ds : List Drop} {b : Branch} (hnodup : ds.Nodup) {s : State} (hcore : JobCore s)
    (hpending : ∀ d ∈ ds, Drop.branch d = b ∧ (s.entry d).rejoinPending = true)
    (hroom : (s.queue b).length + ds.length ≤ 6) : CoreKept s (ds.foldl (fun t d => t.queuePending d) s) := by
  induction ds generalizing s with
  | nil => exact .refl hcore
  | cons d ds ih =>
    obtain ⟨hfresh, hrest⟩ := List.nodup_cons.mp hnodup
    obtain ⟨rfl, hflag⟩ := hpending d (List.mem_cons_self ..)
    rw [List.length_cons] at hroom
    have hfirst := coreKept_queuePending hcore hflag (by omega)
    have hfilled := filled_queuePending s d
    refine hfirst.trans (ih hrest hfirst.core (fun f hf => ?_) ?_)
    · obtain ⟨hb, hff⟩ := hpending f (List.mem_cons_of_mem _ hf)
      refine ⟨hb, ?_⟩
      rw [hfilled.entry, if_neg]
      · exact hff
      · rw [List.mem_singleton]
        exact fun heq => hfresh (heq ▸ hf)
    · rw [State.queue, hfilled.branch]
      simp only [List.length_append, List.length_map, List.length_singleton]
      omega

theorem nodup_fillers (b : Branch) : (s.fillers b).Nodup :=
  ((((List.nodup_finRange 64).filter _).filter _).sublist (List.take_sublist ..))

theorem coreKept_fill (hcore : JobCore s) (b : Branch) : CoreKept s (s.fill b) := by
  refine coreKept_queueAll (nodup_fillers b) hcore (fun _ hd => mem_fillers hd) ?_
  have hshort := (hcore.queues b).short
  have htaken : (s.fillers b).length ≤ 6 - (s.queue b).length := List.length_take_le ..
  change (s.queue b).length + (s.fillers b).length ≤ 6
  omega

theorem coreKept_fillAll (hcore : JobCore s) : CoreKept s s.fillAll :=
  foldl_keeps (P := fun t => CoreKept s t) (fun _ b hu => hu.trans (coreKept_fill hu.core b)) allBranches (.refl hcore)

/-- After the filling of every queue a pending flag stands only beside a full queue (R34). -/
theorem fullLaw_fillAll (hcore : JobCore s) : FullLaw s.fillAll := by
  intro _ d hd
  obtain ⟨hqueue, hentry⟩ := fillAll_at s d.branch
  rw [hentry d rfl] at hd
  split at hd
  · cases hd
  next hnot =>
    have hmem : d ∈ s.pendingDrops d.branch := mem_pendingDrops.mpr ⟨rfl, hd⟩
    have hlength : 6 - (s.queue d.branch).length ≤ (s.fillers d.branch).length := by
      by_contra hshort
      rw [State.fillers, List.length_take, Nat.not_le] at hshort
      have hall : s.fillers d.branch = s.pendingDrops d.branch := List.take_of_length_le (by omega)
      exact hnot (hall ▸ hmem)
    have hfits : (s.fillers d.branch).length ≤ 6 - (s.queue d.branch).length := List.length_take_le ..
    have hshort := (hcore.queues d.branch).short
    rw [hqueue, List.length_append, List.length_map]
    omega

/-! A job leaves (R42) -/

section
variable {j : Job} {e : Entry}

theorem departed_jobOf : (s.departed j e).jobOf j.drop = none := by
  rw [State.jobOf, departed_queue]
  exact find_filter_same _ _

theorem departed_entry (f : Drop) : (s.departed j e).entry f = if j.drop = f then e else s.entry f :=
  State.setEntry_entry ..

/-- The head that a departure leaves in place is served on. -/
theorem departed_serves (hcore : JobCore s) (hjob : s.jobOf j.drop = some j) {g : Gen} {b : Branch} {d : Drop}
    (hg : ((s.departed j e).gen g).attached = some (d, .binding b)) (h : s.serves b d = true) :
    (s.departed j e).serves b d = true := by
  by_cases hb : b = j.drop.branch
  · subst hb
    obtain ⟨i, is, hqueue, hdrop, hbinds⟩ := serves_iff.mp h
    have hmem : j ∈ i :: is := hqueue ▸ (mem_of_jobOf hjob).1
    by_cases hi : i.drop = j.drop
    · have hij : i = j := Option.some.inj ((jobOf_head hcore hqueue).2.symm.trans (hi ▸ hjob))
      subst hij
      have hstage : i.stage = .waitTrace ∨ i.stage = .matching := hbinds.imp_left And.left
      rw [departed_gen] at hg
      rcases detachWhere_attached (s := s) (bindingGenOf i) g with hnone | hsame
      · rw [hnone] at hg
        cases hg
      · rw [hsame] at hg
        rw [detachWhere_gen, bindingGenOf_binding hg hstage, hg] at hsame
        have hdetached : (s.gen g).attached = none := congrArg Generator.attached hsame.symm
        rw [hdetached] at hg
        cases hg
    · have hwaiting : j.stage = .waiting := (hcore.queues _).waiting j (by
        rw [hqueue]
        exact (List.mem_cons.mp hmem).resolve_left fun heq => hi (by rw [heq]))
      refine serves_iff.mpr ⟨i, is.filter fun k => k.drop ≠ j.drop, ?_, hdrop, ?_⟩
      · rw [departed_queue, hqueue]
        exact List.filter_cons_of_pos (by simpa using hi)
      · rw [departed_branch, removeJob_waiting hwaiting]
        exact hbinds
  · rw [State.serves, State.queue, departed_branch_ne s j e hb]
    exact h

theorem coreKept_departed (hcore : JobCore s) (hjob : s.jobOf j.drop = some j) (hkeeps : EntryKeeps (s.entry j.drop) e)
    (hlaw : DropLaw e none) : CoreKept s (s.departed j e) := by
  have hwork : JobWork s (s.departed j e) :=
    (jobWork_detachWhere s _).trans ((jobWork_setBranch _ _ _).trans (jobWork_setEntry _ _ _))
  refine RosterKept.coreKept ⟨fun f => ?_, fun b => by rw [hwork.arrivals], hwork.running⟩ ?_ fun hs =>
    genInv_of_fewer hs (fun g => ?_) fun g d b hg h => departed_serves hcore hjob hg h
  · rw [departed_entry]
    split
    next hf => rwa [← hf]
    next => exact .refl _
  · refine jobCore_at hcore j.drop (fun b hb => ?_) ?_ (fun f hf => ?_) (fun f hf hb => ?_) ?_
    · rw [State.queue, departed_branch_ne s j e hb]
      rfl
    · rw [departed_queue]
      exact queueLaw_filter (hcore.queues _) _
    · rw [departed_entry, if_neg hf.symm]
    · rw [State.jobOf, State.jobOf, hb, departed_queue]
      exact find_filter_ne hf
    · rw [departed_entry, if_pos rfl, departed_jobOf]
      exact hlaw
  · rw [departed_gen]
    refine (detachWhere_attached _ g).imp_right fun h => ?_
    rw [h]
    exact .refl _

theorem coreKept_dropJob (hcore : JobCore s) (hjob : s.jobOf j.drop = some j) (hkeeps : EntryKeeps (s.entry j.drop) e)
    (hlaw : DropLaw e none) : CoreKept s (s.dropJob j e) := by
  have hdeparted := coreKept_departed hcore hjob hkeeps hlaw
  rw [dropJob_eq]
  exact hdeparted.trans (laws_offerAll hdeparted.core _).toCoreKept

theorem dropJob_length (hcore : JobCore s) (hjob : s.jobOf j.drop = some j) :
    ((s.dropJob j e).queue j.drop.branch).length + 1 = (s.queue j.drop.branch).length := by
  rw [dropJob_queue]
  exact length_filter_drop (hcore.queues _) (mem_of_jobOf hjob).1

/-- A refill takes the place of a departed job while a drop of the branch is pending (R33). -/
theorem refill_length {b : Branch} {d : Drop} (hopen : s.intakeOpen = true) (hroom : (s.queue b).length < 6)
    (hbranch : d.branch = b) (hflag : (s.entry d).rejoinPending = true) :
    ((s.refill b).queue b).length = (s.queue b).length + 1 := by
  cases hpending : s.pendingDrops b with
  | nil =>
    have hmem := mem_pendingDrops.mpr ⟨hbranch, hflag⟩
    rw [hpending] at hmem
    cases hmem
  | cons f fs =>
    obtain ⟨hf, -⟩ := mem_pendingDrops.mp (show f ∈ s.pendingDrops b by rw [hpending]; exact List.mem_cons_self ..)
    rw [refill_queued hopen hroom hpending]
    have hqueue : (s.queuePending f).queue b = s.queue b ++ [rejoinJob f] := by
      rw [State.queuePending, State.setEntry_queue, appendJob_queue, if_pos hf]
      rfl
    rw [hqueue, List.length_append]
    rfl

theorem refill_flags (b : Branch) {d : Drop} (h : ((s.refill b).entry d).rejoinPending = true) :
    (s.entry d).rejoinPending = true := by
  rcases refill_cases s b with hsame | ⟨f, fs, -, -, -, hqueued⟩
  · rwa [hsame] at h
  · rw [hqueued, (filled_queuePending s f).entry] at h
    split at h
    · cases h
    · exact h

theorem raiseIf_intake (ev : Option Event) : (s.raiseIf ev).intakeOpen = s.intakeOpen := by cases ev <;> rfl

/-- The end of a job keeps every law: where intake is open, its place is refilled while a drop is pending (R33, R42). -/
theorem laws_endJob (hcore : JobCore s) (hjob : s.jobOf j.drop = some j) (hkeeps : EntryKeeps (s.entry j.drop) e)
    (hlaw : DropLaw e none) (hclear : e.rejoinPending = false) (ev : Option Event) : Kept s (s.endJob j e ev) := by
  have hdropped := coreKept_dropJob hcore hjob hkeeps hlaw
  have hraised := hdropped.trans ((alike_raiseIf (s.dropJob j e) ev).kept hdropped.core).toCoreKept
  have hrefilled := hraised.trans (coreKept_refill hraised.core j.drop.branch)
  have hproceeds := laws_proceed hrefilled.core j.drop.branch
  have hu := alike_raiseIf (s.dropJob j e) ev
  have hlength := dropJob_length (e := e) hcore hjob
  have hopen : ((s.dropJob j e).raiseIf ev).intakeOpen = s.intakeOpen :=
    (raiseIf_intake ev).trans (jobWork_dropJob s j e).intake
  have hopen' := (jobWork_refill ((s.dropJob j e).raiseIf ev) j.drop.branch).intake
  have hqueue (b : Branch) : ((s.dropJob j e).raiseIf ev).queue b = (s.dropJob j e).queue b := by cases ev <;> rfl
  have hentry (d : Drop) : ((s.dropJob j e).raiseIf ev).entry d = if j.drop = d then e else s.entry d :=
    (by cases ev <;> rfl : _ = (s.dropJob j e).entry d).trans (dropJob_entry s j e d)
  rw [endJob_eq]
  generalize (s.dropJob j e).raiseIf ev = u at *
  refine ⟨hrefilled.trans hproceeds.toCoreKept, fun hs => hproceeds.full fun hopens d hd => ?_, fun hs =>
    hproceeds.intake fun hclosed => ?_⟩
  · have hflag := refill_flags _ hd
    rw [hopen'.trans hopen] at hopens
    have hdj : j.drop ≠ d := by
      rintro rfl
      rw [hentry, if_pos rfl, hclear] at hflag
      cases hflag
    have hs' : (s.queue d.branch).length = 6 := hs hopens d (by rwa [hentry, if_neg hdj] at hflag)
    by_cases hb : d.branch = j.drop.branch
    · rw [← hqueue] at hlength
      rw [hb] at hs' ⊢
      rw [refill_length (hopen.trans hopens) (by omega) hb hflag]
      omega
    · obtain ⟨-, -, hothers, -⟩ := refill_leaves u j.drop.branch
      rw [hothers _ hb, hqueue, dropJob_queue_ne s j e hb]
      exact hs'
  · rw [hopen'.trans hopen] at hclosed
    have hclosed' : s.intakeOpen = false ∨ s.isRunning = false := hclosed.imp_right fun h => by
      rw [(jobWork_refill u j.drop.branch).running] at h
      rwa [← (jobWork_dropJob s j e).running, ← hu.running]
    have hempty := hs hclosed' j.drop.branch
    have hmem := (mem_of_jobOf hjob).1
    rw [hempty] at hmem
    cases hmem

end

end

end Sys2Proof.Machine

/-! PROOFS. The laws through a hello: rejoin requests, abandoned jobs, moved entries and arrivals (R32, R33, R98 to R102). -/

namespace Sys2Proof.Machine

section
variable {s : State}

/-! Entries that change state -/

theorem enter_flag {e : Entry} {st : EntryState} (h : (e.enter st).rejoinPending = true) : e.rejoinPending = true := by
  by_cases hsame : e.state = st
  · rwa [enter_same hsame] at h
  · by_cases hbound : st = .bound
    · subst hbound
      rwa [enter_bound hsame] at h
    · rw [enter_rejoinPending hsame hbound] at h
      cases h

/-- An entry without a job in a state that needs none, and without a pending flag, is lawful (R11). -/
theorem dropLaw_none {e : Entry} (hstate : e.state ≠ .binding ∧ e.state ≠ .ranging) (hclear : e.rejoinPending = false) :
    DropLaw e none :=
  ⟨by simp [paired, hstate], fun hflag => by rw [hclear] at hflag; cases hflag⟩

/-- The flag is clear on entry into PLANNED or BLOCKED, whatever it was (R12). -/
theorem unbound_clear {e : Entry} {j : Option Job} (hlaw : DropLaw e j) {st : EntryState}
    (hst : st = .planned ∨ st = .blocked) : (e.enter st).rejoinPending = false := by
  by_cases hsame : e.state = st
  · rw [enter_same hsame, Bool.eq_false_iff]
    intro hflag
    have hbound := (hlaw.pending hflag).1
    rw [hsame] at hbound
    rcases hst with rfl | rfl <;> cases hbound
  · refine enter_rejoinPending hsame ?_
    rcases hst with rfl | rfl <;> decide

theorem dropLaw_unbound {e : Entry} {j : Option Job} (hlaw : DropLaw e j) {st : EntryState}
    (hst : st = .planned ∨ st = .blocked) : DropLaw (e.enter st) none := by
  refine dropLaw_none ?_ (unbound_clear hlaw hst)
  rw [enter_state]
  rcases hst with rfl | rfl <;> decide

theorem bound_clear {e : Entry} (hclear : e.rejoinPending = false) : (e.enter .bound).rejoinPending = false := by
  rw [Bool.eq_false_iff]
  intro h
  rw [enter_flag h] at hclear
  cases hclear

theorem dropLaw_bound {e : Entry} (hclear : e.rejoinPending = false) : DropLaw (e.enter .bound) none :=
  dropLaw_none (by rw [enter_state]; decide) (bound_clear hclear)

/-- A state that no job pairs with is that of a drop without one (R11). -/
theorem no_job {st : EntryState} {j : Option Job} (hpaired : paired st j = true)
    (hst : st ∉ [.planned, .bound, .binding, .ranging]) : j = none := by
  cases j with
  | none => rfl
  | some k =>
    exfalso
    revert hpaired hst
    simp only [paired]
    cases k.stage <;> cases k.kind <;> cases st <;> decide

theorem job_clear (hcore : JobCore s) {d : Drop} {j : Job} (hjob : s.jobOf d = some j) :
    (s.entry d).rejoinPending = false := by
  have hlaw := hcore.drops d
  rw [hjob] at hlaw
  exact hlaw.clear

/-! Rejoin requests (R32) -/

theorem keeps_setFlag (e : Entry) (v : Bool) : EntryKeeps e { e with rejoinPending := v } := ⟨id, id, .inl rfl⟩

theorem laws_rejoinRequest (hcore : JobCore s) (hfull : FullLaw s) (hrun : s.isRunning = true) {d : Drop}
    (hbound : (s.entry d).state = .bound) (hfree : s.jobOf d = none) : Kept s (s.rejoinRequest d) := by
  rcases rejoinRequest_cases s d with ⟨hopen, hroom, h⟩ | ⟨-, -, h⟩ | ⟨hno, -, h⟩ <;> rw [h]
  · have hclear : (s.entry d).rejoinPending = false := by
      rw [Bool.eq_false_iff]
      intro hflag
      have hlength := hfull hopen d hflag
      omega
    have hjoined := laws_joined (k := .rejoin) (r := .roster) hcore hfree hroom (.refl _)
      ⟨by simp [paired, hbound], fun hflag => (by rw [hclear] at hflag; cases hflag)⟩ hopen hrun
    rw [joined_self] at hjoined
    exact hjoined.trans (laws_proceed hjoined.core _)
  · exact .refl hcore
  · have hset : Kept s (s.setEntry d { s.entry d with rejoinPending := true }) := by
      refine ⟨(rosterKept_setEntry (keeps_setFlag _ true)).coreKept (jobCore_setEntry hcore ?_) id,
        fun hs hopen f hf => ?_, id⟩
      · rw [hfree]
        exact ⟨by simp [paired, hbound], fun _ => ⟨hbound, rfl⟩⟩
      · rw [State.setEntry_entry] at hf
        split at hf
        next hdf =>
          rw [← hdf]
          exact Nat.le_antisymm (hcore.queues _).short (hno hopen)
        next => exact hs hopen f hf
    exact hset.trans ((alike_raise _ _).kept hset.core)

/-! Abandoned jobs (R33, R68) -/

theorem laws_abandonJob (hcore : JobCore s) {j : Job} (hjob : s.jobOf j.drop = some j)
    (hstate : (s.entry j.drop).state = .ranging) : Kept s (s.abandonJob j) := by
  have hclear := job_clear hcore hjob
  have hentry : (s.abandoned j).entry j.drop = { (s.entry j.drop).boundAgain with lastResult := .held } := by
    rw [abandoned_entry, if_pos rfl]
  have hdropped : CoreKept s (s.dropJob j { (s.entry j.drop).boundAgain with lastResult := .held }) := by
    refine coreKept_dropJob hcore hjob ?_ (dropLaw_none ⟨fun h => (by cases h), fun h => (by cases h)⟩ hclear)
    exact ⟨fun _ => rfl, fun h => h.trans (by rw [hstate]; rfl), .inl rfl⟩
  have hgone := hdropped.trans ((alike_raise _ .jobFailed).kept hdropped.core).toCoreKept
  have hlength : ((s.abandoned j).queue j.drop.branch).length + 1 = (s.queue j.drop.branch).length :=
    dropJob_length hcore hjob
  have hfree : (s.abandoned j).jobOf j.drop = none := by
    rw [State.jobOf, abandoned_queue]
    exact find_filter_same _ _
  have hshort := (hcore.queues j.drop.branch).short
  have hwork : JobWork s (s.dropJob j { (s.entry j.drop).boundAgain with lastResult := .held }) := jobWork_dropJob s j _
  have hintake : (s.abandoned j).intakeOpen = s.intakeOpen := hwork.intake
  have hrunning : (s.abandoned j).isRunning = s.isRunning := hwork.running
  have hqueue (b : Branch) (hb : j.drop.branch ≠ b) : (s.abandoned j).queue b = s.queue b :=
    dropJob_queue_ne s j _ hb.symm
  rw [abandonJob_eq hstate]
  have hothers (d : Drop) (hd : j.drop ≠ d) : (s.abandoned j).entry d = s.entry d := by
    rw [abandoned_entry, if_neg hd]
  have hgone' : CoreKept s (s.abandoned j) := hgone
  generalize s.abandoned j = u at *
  have hjoined : CoreKept u (u.appendJob j.drop .rejoin .roster) := by
    rw [← joined_self]
    refine coreKept_joined hgone'.core hfree (by omega) (.refl _) ?_
    rw [hentry]
    exact ⟨rfl, fun hflag => absurd (hclear.symm.trans hflag) Bool.false_ne_true⟩
  have heven : Even s (u.appendJob j.drop .rejoin .roster) := by
    refine ⟨fun b => ?_, fun d hd => ?_, hintake, hrunning⟩
    · rw [appendJob_queue]
      split
      next hb =>
        rw [← hb, List.length_append, List.length_singleton]
        exact hlength
      next hb => rw [hqueue b hb]
    · by_cases hdj : j.drop = d
      · subst hdj
        change (u.entry j.drop).rejoinPending = true at hd
        rw [hentry] at hd
        exact hd
      · change (u.entry d).rejoinPending = true at hd
        rwa [hothers d hdj] at hd
  have hall := (hgone'.trans hjoined).kept heven
  exact hall.trans (laws_proceed hall.core _)

/-! A hello from a bound serial on its own branch (R101) -/

theorem laws_heard (hcore : JobCore s) (hfull : FullLaw s) (hrun : s.isRunning = true) {d : Drop}
    (hstate : (s.entry d).state = .active ∨ (s.entry d).state = .silent) :
    Kept s ((s.setEntry d ((s.entry d).enter .bound)).rejoinRequest d) := by
  have hlaw := hcore.drops d
  have hjob : s.jobOf d = none := no_job hlaw.paired (by rcases hstate with h | h <;> rw [h] <;> decide)
  have hclear : (s.entry d).rejoinPending = false := by
    rw [Bool.eq_false_iff]
    intro hflag
    have hbound := (hlaw.pending hflag).1
    rcases hstate with h | h <;> rw [h] at hbound <;> cases hbound
  have hset : Kept s (s.setEntry d ((s.entry d).enter .bound)) :=
    laws_setEntry hcore (keeps_enter_bound (by rcases hstate with h | h <;> rw [h] <;> rfl))
      (by rw [hjob]; exact dropLaw_bound hclear) enter_flag
  refine hset.trans (laws_rejoinRequest hset.core (hset.full hfull) hrun ?_ hjob)
  rw [State.setEntry_entry_same, enter_state]

theorem laws_helloOwnBranch (hcore : JobCore s) (hfull : FullLaw s) (hrun : s.isRunning = true) (d : Drop) :
    Kept s (s.helloOwnBranch d) := by
  unfold State.helloOwnBranch
  split
  next hstate => exact laws_heard hcore hfull hrun (.inl hstate)
  next hstate => exact laws_heard hcore hfull hrun (.inr hstate)
  next j hstate hjob =>
    obtain ⟨-, rfl⟩ := mem_of_jobOf hjob
    exact laws_abandonJob hcore hjob hstate
  next hstate hjob => exact laws_rejoinRequest hcore hfull hrun hstate hjob
  next => exact .refl hcore

/-! A hello from a serial bound on another branch (R102) -/

theorem startHead_serial (s : State) (b : Branch) (d : Drop) : ((s.startHead b).entry d).serial = (s.entry d).serial := by
  rcases startHead_entry s b d with h | ⟨j, js, -, -, -, -, -, h⟩ <;> rw [h]
  by_cases hne : (s.entry d).state = .ranging
  · rw [enter_same hne]
  · rw [enter_ranging hne]

theorem refill_serial (s : State) (b : Branch) (d : Drop) : ((s.refill b).entry d).serial = (s.entry d).serial := by
  rcases refill_cases s b with h | ⟨f, fs, -, -, -, h⟩ <;> rw [h]
  rw [(filled_queuePending s f).entry]
  split <;> rfl

/-- The end of a job changes the serial of its own entry alone. -/
theorem endJob_serial (s : State) (j : Job) (e : Entry) (ev : Option Event) (d : Drop) :
    ((s.endJob j e ev).entry d).serial = if j.drop = d then e.serial else (s.entry d).serial := by
  have hraised : ((s.dropJob j e).raiseIf ev).entry d = (s.dropJob j e).entry d := by cases ev <;> rfl
  rw [endJob_eq, State.proceed, grant_entry, startHead_serial, refill_serial, hraised, dropJob_entry]
  split <;> rfl

theorem moveEntry_serial (s : State) (d f : Drop) : ((s.moveEntry d).entry f).serial =
    if d = f then (((s.entry d).enter .blocked).result .moved).serial else (s.entry f).serial := by
  cases hjob : s.jobOf d with
  | none =>
    rw [moveEntry_none hjob, State.raise_entry, State.setEntry_entry]
    split <;> rfl
  | some j =>
    obtain ⟨-, rfl⟩ := mem_of_jobOf hjob
    rw [moveEntry_job hjob, State.raise_entry, endJob_serial]

theorem laws_moveEntry (hcore : JobCore s) (d : Drop) : Kept s (s.moveEntry d) := by
  have hkeeps : EntryKeeps (s.entry d) (((s.entry d).enter .blocked).result .moved) :=
    (keeps_enter_unbound _ (.inr rfl)).trans (alike_result _ _).keeps
  have hlaw : DropLaw (((s.entry d).enter .blocked).result .moved) none :=
    (alike_result _ _).dropLaw (dropLaw_unbound (hcore.drops d) (.inr rfl))
  have hclear : (((s.entry d).enter .blocked).result .moved).rejoinPending = false := unbound_clear (hcore.drops d) (.inr rfl)
  cases hjob : s.jobOf d with
  | none =>
    rw [moveEntry_none hjob]
    have hset : Kept s (s.setEntry d (((s.entry d).enter .blocked).result .moved)) :=
      laws_setEntry hcore hkeeps (by rwa [hjob]) enter_flag
    exact hset.trans ((alike_raise _ _).kept hset.core)
  | some j =>
    rw [moveEntry_job hjob]
    obtain ⟨-, rfl⟩ := mem_of_jobOf hjob
    have hended := laws_endJob hcore hjob hkeeps hlaw hclear (some .jobFailed)
    exact hended.trans ((alike_raise _ _).kept hended.core)

/-! Arrivals (R96, R100) -/

section
variable {b : Branch} {r : Report}

/-- An arrival added to a list, or missed there, leaves the rest of the part (R100). -/
theorem addArrival_eq (s : State) (b : Branch) (r : Report) : ∃ l e,
    s.addArrival b r = ((s.unlist r.serial).setArrivals b l).raise e ∧
    (l.items = ((s.unlist r.serial).arrivalsOf b).items ∨
      (((s.unlist r.serial).arrivalsOf b).items.length < 8 ∧
        l.items = ((s.unlist r.serial).arrivalsOf b).items ++ [Arrival.fresh s.settings r])) := by
  unfold State.addArrival
  dsimp only
  split
  next hroom => exact ⟨_, _, rfl, .inr ⟨hroom, rfl⟩⟩
  next => exact ⟨_, _, rfl, .inl rfl⟩

/-- A serial that no entry holds may be listed (R96). -/
theorem serialInv_listed {l : ArrivalsList} {a : Arrival} (hs : s.SerialInv) (hrun : s.isRunning = true)
    (hitems : l.items = (s.arrivalsOf b).items ++ [a]) (hroom : (s.arrivalsOf b).items.length < 8)
    (hunlisted : a.serial ∉ s.listedSerials) (hfree : ∀ d, (s.entry d).serial ≠ some a.serial) :
    (s.setArrivals b l).SerialInv := by
  rw [serialInv_iff] at hs ⊢
  obtain ⟨hbears, hapart, hlength, hnodup, hentries, -⟩ := hs
  have harrivals (c : Branch) : ((s.setArrivals b l).arrivalsOf c).items.map Arrival.serial =
      if b = c then (s.arrivalsOf c).items.map Arrival.serial ++ [a.serial]
      else (s.arrivalsOf c).items.map Arrival.serial := by
    rw [State.setArrivals_arrivalsOf]
    split
    next hbc => rw [← hbc, hitems, List.map_append, List.map_singleton]
    next => rfl
  have hcase (c : Branch) {n : Serial} (hn : n ∈ ((s.setArrivals b l).arrivalsOf c).items.map Arrival.serial) :
      n ∈ (s.arrivalsOf c).items.map Arrival.serial ∨ (b = c ∧ n = a.serial) := by
    rw [harrivals] at hn
    split at hn
    next hbc => exact (List.mem_append.mp hn).imp_right fun h => ⟨hbc, List.mem_singleton.mp h⟩
    next => exact .inl hn
  have hnew (c : Branch) : a.serial ∉ (s.arrivalsOf c).items.map Arrival.serial := fun h =>
    hunlisted (mem_listedSerials.mpr ⟨c, h⟩)
  refine ⟨hbears, hapart, fun c => ?_, ?_, fun n hn d => ?_, fun hidle => ?_⟩
  · rw [harrivals]
    split
    next hbc =>
      rw [← hbc, List.length_append, List.length_map, List.length_singleton]
      omega
    next => exact hlength c
  · rw [listedSerials_eq, List.nodup_flatMap] at hnodup ⊢
    obtain ⟨hlists, hdisjoint⟩ := hnodup
    refine ⟨fun c hc => ?_, (hdisjoint.and nodup_allBranches).imp fun {c e} hce n hc he => ?_⟩
    · rw [harrivals]
      split
      · refine List.nodup_append.mpr ⟨hlists c hc, List.nodup_singleton _, fun x hx y hy hxy => hnew c ?_⟩
        rw [List.mem_singleton.mp hy] at hxy
        rwa [← hxy]
      · exact hlists c hc
    · obtain ⟨hapart', hne⟩ := hce
      rcases hcase c hc with hc | ⟨hbc, rfl⟩
      · rcases hcase e he with he | ⟨-, rfl⟩
        · exact hapart' hc he
        · exact hnew c hc
      · rcases hcase e he with he | ⟨hbe, -⟩
        · exact hnew e he
        · exact hne (hbc.symm.trans hbe)
  · obtain ⟨c, hc⟩ := mem_listedSerials.mp hn
    rcases hcase c hc with hc | ⟨-, rfl⟩
    · exact hentries n (mem_listedSerials.mpr ⟨c, hc⟩) d
    · exact hfree d
  · rw [show (s.setArrivals b l).isRunning = s.isRunning from rfl, hrun] at hidle
    cases hidle

theorem unlist_unlisted (n : Serial) : n ∉ (s.unlist n).listedSerials := by
  rw [mem_listedSerials]
  rintro ⟨c, hc⟩
  rw [unlist_arrivalsOf] at hc
  obtain ⟨a, ha, hserial⟩ := List.mem_map.mp hc
  simpa [hserial] using (List.mem_filter.mp ha).2

theorem serialInv_addArrival (hs : s.SerialInv) (hrun : s.isRunning = true) (hfree : ∀ d, (s.entry d).serial ≠ some r.serial) :
    (s.addArrival b r).SerialInv := by
  have hunlisted := (alike_unlist s r.serial).rosterKept.serial hs
  obtain ⟨l, e, h, hitems⟩ := addArrival_eq s b r
  rw [h]
  refine (alike_raise _ e).rosterKept.serial ?_
  rcases hitems with hsame | ⟨hroom, hadded⟩
  · refine (alike_setArrivals (s.unlist r.serial) ?_).rosterKept.serial hunlisted
    rw [hsame]
  · exact serialInv_listed hunlisted hrun hadded hroom (unlist_unlisted r.serial) hfree

/-- An arrival touches no job, no entry and no generator. -/
theorem addArrival_frame (s : State) (b : Branch) (r : Report) : s.addArrival b r =
    { s with arrivals := (s.addArrival b r).arrivals, ports := (s.addArrival b r).ports } := by
  obtain ⟨l, e, h, -⟩ := addArrival_eq s b r
  rw [h]
  rfl

/-- An arrival of a serial that no entry holds keeps every law, after work that keeps them. -/
theorem Kept.addArrival {v : State} (hkept : Kept v s) (hrun : s.isRunning = true)
    (hfree : v.SerialInv → ∀ d, (s.entry d).serial ≠ some r.serial) : Kept v (s.addArrival b r) := by
  have hframe := addArrival_frame s b r
  have hserial (hv : v.SerialInv) : (s.addArrival b r).SerialInv :=
    serialInv_addArrival (hkept.serial hv) hrun (hfree hv)
  generalize s.addArrival b r = t at *
  refine ⟨⟨?_, hserial, ?_, ?_⟩, ?_, ?_⟩ <;> rw [hframe]
  · exact ⟨hkept.core.queues, hkept.core.drops⟩
  · exact hkept.presence
  · exact hkept.gen
  · exact hkept.full
  · exact hkept.intake

end

theorem laws_takeHello (hcore : JobCore s) (hfull : FullLaw s) (hrun : s.isRunning = true) (b : Branch) (r : Report) :
    Kept s (s.takeHello b r) := by
  unfold State.takeHello
  split
  next d hholder =>
    split
    · exact laws_helloOwnBranch hcore hfull hrun d
    · have hserial : (s.entry d).serial = some r.serial := serial_of_holderOf hholder
      refine (laws_moveEntry hcore d).addArrival ((steady_moveEntry s d).isRunning_eq.trans hrun) fun hs f hf => ?_
      have hsome : (s.entry d).serial.isSome = true := by rw [hserial]; rfl
      rw [moveEntry_serial] at hf
      split at hf
      · have hstate : (s.entry d).state ≠ .blocked := fun h => by
          rw [serialInv_bears hs, h] at hsome
          cases hsome
        rw [enter_blocked hstate] at hf
        cases hf
      next hdf => exact serialInv_apart hs hdf hsome (hserial.trans hf.symm)
  next hnone =>
    split
    · exact (alike_refreshArrival s b r).kept hcore
    · refine (Kept.refl hcore).addArrival hrun fun _ d hd => ?_
      have hno := List.find?_eq_none.mp hnone d (List.mem_finRange d)
      simp [hd] at hno

end

end Sys2Proof.Machine

/-! PROOFS. The laws through replies, presence bursts and the timers of a branch (R53 to R66, R122 to R129). -/

namespace Sys2Proof.Machine

section
variable {s : State} {j : Job} {js : List Job} {b : Branch}

/-! Ends of jobs by the state that the entry enters (R42, R45, R56 to R66) -/

theorem laws_endUnbound (hcore : JobCore s) (hjob : s.jobOf j.drop = some j) {st : EntryState} {e : Entry}
    (hst : st = .planned ∨ st = .blocked) (he : EntryAlike ((s.entry j.drop).enter st) e) (ev : Option Event) :
    Kept s (s.endJob j e ev) :=
  laws_endJob hcore hjob ((keeps_enter_unbound _ hst).trans he.keeps)
    (he.dropLaw (dropLaw_unbound (hcore.drops _) hst)) (he.pending.trans (unbound_clear (hcore.drops _) hst)) ev

theorem laws_endBound (hcore : JobCore s) (hjob : s.jobOf j.drop = some j) {e : Entry}
    (hbears : (s.entry j.drop).state.bearsSerial = true) (he : EntryAlike ((s.entry j.drop).enter .bound) e)
    (ev : Option Event) : Kept s (s.endJob j e ev) :=
  laws_endJob hcore hjob ((keeps_enter_bound hbears).trans he.keeps) (he.dropLaw (dropLaw_bound (job_clear hcore hjob)))
    (he.pending.trans (bound_clear (job_clear hcore hjob))) ev

/-- The state of an entry beside its running job (R11). -/
theorem paired_running {st : EntryState} (hpaired : paired st (some j) = true) :
    (j.stage = .matching → j.kind = .activate ∧ st = .binding) ∧
    (j.stage = .range ∨ j.stage = .admitting → st = .ranging) := by
  refine ⟨fun hstage => ?_, fun hstage => ?_⟩
  · cases hkind : j.kind with
    | activate => exact ⟨rfl, by simpa [paired, hstage, hkind] using hpaired⟩
    | rejoin => simp [paired, hstage, hkind] at hpaired
  · rcases hstage with hstage | hstage <;> simpa [paired, hstage] using hpaired

/-- A head job that ranges or waits in ADMIT stands beside an entry that bears a serial. -/
theorem bears_of_ranging (hcore : JobCore s) (hqueue : s.queue b = j :: js) (hstage : j.stage = .range ∨ j.stage = .admitting) :
    (s.entry j.drop).state.bearsSerial = true := by
  rw [(paired_running (dropLaw_head hcore hqueue).paired).2 hstage]
  rfl

theorem head_queue {s : State} (h : s.head b = some j) : ∃ js, s.queue b = j :: js :=
  ⟨_, (List.cons_head?_tail (a := j) h).symm⟩

/-! Match replies (R54 to R59) -/

theorem alike_judged (e : Entry) (why : LastResult) (n : Option Serial) (level : Option Nat) :
    EntryAlike e { e.result why with lastSerial := n, lastLevel := level } := ⟨rfl, rfl, rfl, rfl⟩

theorem laws_refuseMatch (hcore : JobCore s) (hjob : s.jobOf j.drop = some j) (r : Report) (why : LastResult)
    (judged : Bool) : Kept s (s.refuseMatch j r why judged) := by
  unfold State.refuseMatch
  dsimp only
  exact laws_endUnbound hcore hjob (.inr rfl) (alike_judged _ why _ _) _

/-- No other entry holds the serial of a reply that is judged good (R55). -/
theorem judgeMatch_success {d : Drop} {r : Report} (h : s.judgeMatch b d r = .success) :
    ∀ o, o ≠ d → (s.entry o).serial ≠ some r.serial := by
  intro o hne hserial
  rw [judgeMatch_eq] at h
  split at h
  · cases h
  · rw [if_pos ⟨o, hne, hserial⟩] at h
    cases h

section
variable {r : Report}

/-- The head job's Branch Controller after a good reply. -/
def BranchCtl.matched (c : BranchCtl) (j : Job) (js : List Job) (r : Report) : BranchCtl :=
  { c with decided := some (r.serial, .succeeded), queue := { j with stage := .range, attempts := 0 } :: js }

/-- The entry after a good reply (R59). -/
def State.matchedEntry (s : State) (d : Drop) (r : Report) : Entry :=
  { s.entry d with
    state := .ranging, serial := some r.serial, lastLevel := some (s.levelOf d r.rawLevel), rejoinPending := false }

theorem matched_eq (b : Branch) (j : Job) (js : List Job) (r : Report) (s : State) : s.matched b j js r =
    (s.moveHead b ((s.branch b).matched j js r) j.drop (s.matchedEntry j.drop r)).unlist r.serial := rfl

theorem jobCore_matched (hcore : JobCore s) (hqueue : s.queue b = j :: js) : JobCore (s.matched b j js r) := by
  rw [matched_eq]
  exact (alike_unlist _ _).core (jobCore_moveHead (k := { j with stage := .range, attempts := 0 }) hcore hqueue rfl rfl
    ⟨by simp [paired, State.matchedEntry], fun h => nomatch h⟩)

theorem even_matched (hqueue : s.queue b = j :: js) : Even s (s.matched b j js r) := by
  rw [matched_eq]
  exact (even_moveHead (k := { j with stage := .range, attempts := 0 }) hqueue rfl rfl).trans (alike_unlist _ _).even

theorem matched_entry (d : Drop) : (s.matched b j js r).entry d =
    if j.drop = d then s.matchedEntry j.drop r else s.entry d := State.setEntry_entry ..

theorem presenceInv_matched (hbinding : (s.entry j.drop).state = .binding) (hs : s.PresenceInv) :
    (s.matched b j js r).PresenceInv := by
  intro d
  rw [matched_entry]
  split
  · have hnone := presence_of_bound (by rw [hbinding]; decide) (hs j.drop)
    simp [State.matchedEntry, hnone, presenceFits]
  · exact hs d

/-- The serial of a good reply leaves the lists for the one entry that takes it (R4, R59, R96). -/
theorem serialInv_matched (hs : s.SerialInv) (honly : ∀ o, o ≠ j.drop → (s.entry o).serial ≠ some r.serial) :
    (s.matched b j js r).SerialInv := by
  have hlisted : (s.matched b j js r).listedSerials.Sublist s.listedSerials := (alike_unlist s r.serial).rosterKept.listed
  have hlists (c : Branch) : (((s.matched b j js r).arrivalsOf c).items.map Arrival.serial).Sublist
      ((s.arrivalsOf c).items.map Arrival.serial) := (alike_unlist s r.serial).arrivals c
  have hgone : r.serial ∉ (s.matched b j js r).listedSerials := unlist_unlisted r.serial
  have hentry := matched_entry (s := s) (b := b) (j := j) (js := js) (r := r)
  have hrunning : (s.matched b j js r).isRunning = s.isRunning := rfl
  have hserial : (s.matchedEntry j.drop r).serial = some r.serial := rfl
  have hbearing : (s.matchedEntry j.drop r).state.bearsSerial = true := rfl
  rw [serialInv_iff] at hs ⊢
  obtain ⟨hbears, hapart, hlength, hnodup, hfree, hidle⟩ := hs
  generalize s.matched b j js r = t at *
  refine ⟨fun d => ?_, fun d e hne hsome heq => ?_, fun c => (hlists c).length_le.trans (hlength c), hnodup.sublist hlisted,
    fun n hn d hd => ?_, fun hrun => ?_⟩
  · rw [hentry]
    split
    · rw [hserial, hbearing]
      rfl
    · exact hbears d
  · rw [hentry d] at hsome heq
    rw [hentry e] at heq
    split at heq
    next hd =>
      rw [if_neg (by rw [hd]; exact hne)] at heq
      exact honly e (by rw [hd]; exact hne.symm) (heq.symm.trans hserial)
    next hd =>
      rw [if_neg hd] at hsome
      split at heq
      next he => exact honly d (by rw [he]; exact hne) (heq.trans hserial)
      next => exact hapart d e hne hsome heq
  · rw [hentry] at hd
    split at hd
    · rw [hserial] at hd
      rw [Option.some.inj hd] at hgone
      exact hgone hn
    · exact hfree n (hlisted.subset hn) d hd
  · exact List.sublist_nil.mp (hidle (hrunning.symm.trans hrun) ▸ hlisted)

theorem matched_serves_ne {c : Branch} (hne : c ≠ b) (d : Drop) : (s.matched b j js r).serves c d = s.serves c d := by
  have hbranch : (s.matched b j js r).branch c = s.branch c := State.setBranch_branch_ne _ _ _ _ hne.symm
  rw [State.serves, State.queue, hbranch]
  rfl

/-- The binding generator of a good reply is released with the job's stage (R59, R116). -/
theorem genInv_matched (hs : s.GenInv) :
    ((s.matched b j js r).detachWhere fun g => g.ownedBy (.binding b)).GenInv := by
  have hgen (g : Gen) : (s.matched b j js r).gen g = s.gen g := rfl
  refine genInv_of_fewer hs (fun g => ?_) fun g d c hg h => ?_
  · exact (detachWhere_attached _ g).imp_right fun hsame => by rw [hsame]; exact .refl _
  · by_cases hc : c = b
    · subst hc
      rw [detachWhere_gen] at hg
      split at hg
      · cases hg
      next hkept =>
        rw [hg] at hkept
        simp [Generator.ownedBy, hg] at hkept
    · exact (matched_serves_ne hc d).trans h

theorem laws_succeedMatch (hcore : JobCore s) (hqueue : s.queue b = j :: js) (hstage : j.stage = .matching)
    (honly : ∀ o, o ≠ j.drop → (s.entry o).serial ≠ some r.serial) : Kept s (s.succeedMatch b j r) := by
  have hbinding := ((paired_running (dropLaw_head hcore hqueue).paired).1 hstage).2
  have hmatched := jobCore_matched (r := r) hcore hqueue
  have hdetached := laws_detachWhere hmatched fun g => g.ownedBy (.binding b)
  have hall : Kept s ((s.matched b j js r).detachWhere fun g => g.ownedBy (.binding b)) :=
    CoreKept.kept ⟨hdetached.core, fun hs => hdetached.serial (serialInv_matched hs honly),
      fun hs => hdetached.presence (presenceInv_matched hbinding hs), genInv_matched⟩
      ((even_matched hqueue).trans (traceWork_detachWhere _ _).even)
  rw [succeedMatch_eq hqueue hbinding]
  exact hall.trans (laws_offerAll hall.core _)

end

theorem alike_noteDecision (s : State) (b : Branch) (n : Serial) (dec : Decision) : Alike s (s.noteDecision b n dec) :=
  alike_setBranch s rfl rfl

theorem laws_judgeReply (hcore : JobCore s) (hqueue : s.queue b = j :: js) (hstage : j.stage = .matching) (r : Report) :
    Kept s (s.judgeReply b j r) := by
  have hjob := (jobOf_head hcore hqueue).2
  unfold State.judgeReply
  split
  case h_1 => exact .refl hcore
  case h_3 => exact ((alike_noteDecision s b _ _).trans (alike_reportFault _ b _)).kept hcore
  case h_8 hgood => exact laws_succeedMatch hcore hqueue hstage (judgeMatch_success hgood)
  all_goals exact laws_refuseMatch hcore hjob r _ _

theorem laws_takeMatchReply (hcore : JobCore s) (b : Branch) (r : Report) : Kept s (s.takeMatchReply b r) := by
  unfold State.takeMatchReply
  split
  · split
    · exact .refl hcore
    · exact (alike_reportFault s b _).kept hcore
  · split
    next j js hqueue =>
      split
      next hstage => exact laws_judgeReply hcore hqueue hstage r
      next => exact .refl hcore
    next => exact .refl hcore

/-! Range replies (R60 to R64) -/

theorem laws_rangeDone (hcore : JobCore s) (hqueue : s.queue b = j :: js) (hstage : j.stage = .range) {n : Serial}
    (hserial : (s.entry j.drop).serial = some n) (trip : Nat) : Kept s (s.rangeDone b j trip) := by
  have hlaw := dropLaw_head hcore hqueue
  have hranging := (paired_running hlaw.paired).2 (.inl hstage)
  have hmoved := laws_moveHead (k := { j with stage := .admitting }) (c := { s.branch b with
      window := .none, listenMs := none, decided := none, rangeCounter := none, admitWait := some 3000
      queue := { j with stage := .admitting } :: js })
    (e := { s.entry j.drop with roundTrip := some trip, delay := some (s.settings.span - trip) }) hcore hqueue rfl rfl
    (EntryAlike.keeps ⟨rfl, rfl, rfl, rfl⟩)
    ⟨by simp [paired, hranging], fun hflag => (by rw [show _ = _ from hlaw.clear] at hflag; cases hflag)⟩
    (fun hb => by simp [Job.bindsWith, hstage] at hb)
  rw [rangeDone_eq hqueue hserial]
  exact hmoved.trans (((alike_sendCall _ b _).trans (alike_grant _ b)).kept hmoved.core)

theorem laws_takeRangeReply (hcore : JobCore s) (b : Branch) (n : Serial) (c : Option RangeCounter) :
    Kept s (s.takeRangeReply b n c) := by
  unfold State.takeRangeReply
  split
  next j js c hqueue =>
    split
    next h =>
      obtain ⟨hstage, hserial⟩ := h
      split
      · exact laws_endUnbound hcore (jobOf_head hcore hqueue).2 (.inr rfl) (alike_result _ _) _
      · exact laws_rangeDone hcore hqueue hstage hserial _
    next => exact .refl hcore
  next => exact .refl hcore

/-! Presence bursts (R65, R125 to R129) -/

theorem alike_judgeLevel (s : State) (d : Drop) (raw : Nat) : Alike s (s.judgeLevel d raw) := by
  have hset (level : Nat) (out : Bool) : Alike s (s.setEntry d { s.entry d with lastLevel := some level, levelDrift := out }) :=
    alike_setEntry s ⟨rfl, rfl, rfl, rfl⟩
  unfold State.judgeLevel
  dsimp only
  split
  · exact (hset _ _).trans (alike_raise _ _)
  · exact hset _ _

/-- A presence record that changes without freezing or thawing leaves what the laws read. -/
theorem alike_presence {s : State} {d : Drop} {f : PresenceRecord → PresenceRecord} (h : ∀ p, (f p).frozen = p.frozen) :
    Alike s (s.setEntry d { s.entry d with presence := (s.entry d).presence.map f }) := by
  refine alike_setEntry s ⟨rfl, rfl, rfl, ?_⟩
  rw [Option.map_map]
  exact congrArg (fun g => (s.entry d).presence.map g) (funext h)

theorem endJob_setEntry (s : State) (j : Job) (x e : Entry) (ev : Option Event) :
    (s.setEntry j.drop x).endJob j e ev = s.endJob j e ev := by
  have hcommute (u : State) (c : BranchCtl) (p : Generator → Bool) : (((u.setEntry j.drop x).detachWhere p).setBranch
      j.drop.branch c) = (((u.detachWhere p).setBranch j.drop.branch c).setEntry j.drop x) := rfl
  have hdeparted : (s.setEntry j.drop x).departed j e = s.departed j e := by
    rw [State.departed, hcommute, setEntry_setEntry]
    rfl
  have hgens : (s.setEntry j.drop x).gensWhere (bindingGenOf j) = s.gensWhere (bindingGenOf j) := rfl
  rw [endJob_eq, endJob_eq, dropJob_eq, dropJob_eq, hdeparted, hgens]

theorem setEntry_raiseWhen (s : State) (d : Drop) (x : Entry) (p : Prop) [Decidable p] (e : Event) :
    (s.setEntry d x).raiseWhen p e = (s.raiseWhen p e).setEntry d x := by
  unfold State.raiseWhen
  split <;> rfl

/-- A job may end beside an event raised just before. -/
theorem laws_raisedEnd (hcore : JobCore s) (hjob : s.jobOf j.drop = some j) {e : Entry}
    (hkeeps : EntryKeeps (s.entry j.drop) e) (hlaw : DropLaw e none) (hclear : e.rejoinPending = false) (p : Prop)
    [Decidable p] (before : Event) (ev : Option Event) : Kept s ((s.raiseWhen p before).endJob j e ev) := by
  unfold State.raiseWhen
  split
  · have hraised := (alike_raise s before).kept hcore
    exact hraised.trans (laws_endJob hraised.core hjob hkeeps hlaw hclear ev)
  · exact laws_endJob hcore hjob hkeeps hlaw hclear ev

theorem laws_completeAdmit (hcore : JobCore s) (hjob : s.jobOf j.drop = some j) (hstate : (s.entry j.drop).state = .ranging)
    (raw : Nat) : Kept s (s.completeAdmit j.drop j raw) := by
  rw [completeAdmit_eq raw hstate, setEntry_raiseWhen, endJob_setEntry]
  rw [State.admittedEntry]
  generalize hentry : s.entry j.drop = e at hstate ⊢
  have hbears : e.state.bearsSerial = true := by rw [hstate]; rfl
  have hkeeps (level : Nat) (out : Bool) (p : PresenceRecord) (hp : p.frozen = false) (result : LastResult) :
      EntryKeeps (s.entry j.drop) { e with
        state := .active, rejoinPending := false, lastLevel := some level, levelDrift := out, presence := some p
        lastResult := result } := by
    rw [hentry]
    exact ⟨fun _ => by simp [presenceFits, hp], fun h => h.trans hbears, .inl rfl⟩
  exact laws_raisedEnd hcore hjob (hkeeps _ _ _ rfl _) (dropLaw_none ⟨fun h => (by cases h), fun h => (by cases h)⟩ rfl) rfl _ _ _

theorem alike_presenceActive (s : State) (d : Drop) (raw : Nat) : Alike s (s.presenceActive d raw) := by
  unfold State.presenceActive
  exact (alike_presence (f := PresenceRecord.heard) fun _ => rfl).trans (alike_judgeLevel _ d raw)

theorem alike_presenceSilent (s : State) (d : Drop) (raw : Nat) : Alike s (s.presenceSilent d raw) := by
  unfold State.presenceSilent
  exact (alike_presence (f := fun p => { p with heardWhileSilent := true }) fun _ => rfl).trans (alike_judgeLevel _ d raw)

theorem laws_takePresence (hcore : JobCore s) (d : Drop) (raw : Nat) : Kept s (s.takePresence d raw) := by
  unfold State.takePresence
  split
  · exact (alike_presenceActive s d raw).kept hcore
  · exact (alike_presenceSilent s d raw).kept hcore
  next j hstate hjob =>
    obtain ⟨-, rfl⟩ := mem_of_jobOf hjob
    exact laws_completeAdmit hcore hjob hstate raw
  next => exact .refl hcore

/-! Bursts (R77 to R94) -/

theorem laws_handOn (hcore : JobCore s) (hfull : FullLaw s) (hrun : s.isRunning = true) (b : Branch) (k : BurstKind)
    (r : Report) (c : Option RangeCounter) : Kept s (s.handOn b k r c) := by
  have hecho (bound : Option Drop) := alike_takeEcho s r.serial b r.observation bound
  unfold State.handOn
  split
  · have hkept := (hecho (s.holderOf r.serial)).kept hcore
    exact hkept.trans (laws_takeHello hkept.core (hkept.full hfull) ((hecho _).running.trans hrun) b r)
  · exact laws_takeMatchReply hcore b r
  · exact laws_takeRangeReply hcore b _ c
  · split
    next d _ =>
      have hkept := (hecho (some d)).kept hcore
      exact hkept.trans (laws_takePresence hkept.core d _)
    next => exact .refl hcore

theorem laws_takeIntact (hcore : JobCore s) (hfull : FullLaw s) (hrun : s.isRunning = true) (b : Branch) (h : Header)
    (payload : List Byte) (c : Option RangeCounter) : Kept s (s.takeIntact b h payload c) := by
  unfold State.takeIntact
  split
  · exact ((alike_reportFault s b _).trans (alike_offerUnknown _ b _)).kept hcore
  · unfold State.takeKnown
    split
    · exact (alike_reportFault s b _).kept hcore
    · split
      · exact (alike_reportFault s b _).kept hcore
      · have hnoted := alike_noteProvider s b h.tag
        have hkept := hnoted.kept hcore
        exact hkept.trans (laws_handOn hkept.core (hkept.full hfull) (hnoted.running.trans hrun) b _ _ c)

theorem laws_takePart (hcore : JobCore s) (hfull : FullLaw s) (hrun : s.isRunning = true) (b : Branch) (x : Burst)
    (r : Reception) : Kept s (s.takePart b x r) := by
  unfold State.takePart
  dsimp only
  generalize foundBetween r.upTo x.upTo (inspect r.tolerance x).faults = found
  have hfound : Alike s (((s.setReception b (r.after x.upTo)).reportFound b found).afterPreamble b found) :=
    (alike_setLane s b _).trans ((alike_reportFound _ b found).trans (alike_afterPreamble _ b found))
  have hkept := hfound.kept hcore
  split
  · exact hkept.trans (laws_takeIntact hkept.core (hkept.full hfull) (hfound.running.trans hrun) b _ _ _)
  · exact hkept

theorem laws_receive (hcore : JobCore s) (hfull : FullLaw s) (b : Branch) (x : Burst) : Kept s (s.receive b x) := by
  unfold State.receive
  dsimp only
  split
  next h =>
    simp only [Bool.and_eq_true] at h
    exact laws_takePart hcore hfull h.1.1.1 b x _
  next => exact (alike_ignoreBurst s b x).kept hcore

/-! The timers of a branch (R37, R38, R53, R58, R63, R66) -/

theorem alike_openCallDue (s : State) (b : Branch) : Alike s (s.openCallDue b) := by
  unfold State.openCallDue
  split
  · exact (alike_setBranch s (b := b) (c := { s.branch b with openDue := true, openTimer := none }) rfl rfl).trans
      (alike_grant _ b)
  · exact .refl s

theorem alike_openCallEnd (s : State) (b : Branch) : Alike s (s.openCallEnd b) := by
  unfold State.openCallEnd
  split
  · exact (alike_setBranch s (b := b) (c := { (s.branch b).endListening with openTimer := some s.settings.openPeriod }) rfl
      rfl).trans (alike_grant _ b)
  · exact .refl s

theorem endListening_queue (s : State) (b c : Branch) : (s.setBranch b (s.branch b).endListening).queue c = s.queue c := by
  rw [State.queue, State.setBranch_branch]
  split
  next hbc =>
    rw [← hbc]
    rfl
  next => rfl

end

end Sys2Proof.Machine

/-! PROOFS. The laws through the ends of the listening periods and the ticks of presence (R53, R58, R60, R63, R66, R123 to
R127). -/

namespace Sys2Proof.Machine

section
variable {s : State} {j : Job} {b : Branch}

/-! The ends of the listening periods -/

/-- The end of a listening period leaves the head job, whose job may end or be granted the window again. -/
theorem laws_endListening (hcore : JobCore s) (b : Branch) : Kept s (s.setBranch b (s.branch b).endListening) :=
  (alike_endListening s b).kept hcore

theorem laws_regrant (hcore : JobCore s) (b : Branch) : Kept s ((s.setBranch b (s.branch b).endListening).grant b) :=
  (laws_endListening hcore b).trans (laws_grant (laws_endListening hcore b).core b)

theorem head_jobOf (hcore : JobCore s) (hhead : s.head b = some j) : s.jobOf j.drop = some j := by
  obtain ⟨js, hqueue⟩ := head_queue hhead
  exact (jobOf_head hcore hqueue).2

theorem endListening_head (hcore : JobCore s) (hhead : s.head b = some j) :
    (s.setBranch b (s.branch b).endListening).jobOf j.drop = some j := by
  obtain ⟨js, hqueue⟩ := head_queue hhead
  exact (jobOf_head (laws_endListening hcore b).core ((endListening_queue s b b).trans hqueue)).2

theorem laws_matchListenEnd (hcore : JobCore s) (b : Branch) : Kept s (s.matchListenEnd b) := by
  unfold State.matchListenEnd
  split
  · dsimp only
    split
    next j hhead =>
      split
      · have hended := laws_endListening hcore b
        exact hended.trans (laws_endUnbound hended.core (endListening_head hcore hhead) (.inl rfl) (alike_result _ _) _)
      · exact laws_regrant hcore b
    next => exact laws_regrant hcore b
  · exact .refl hcore

theorem laws_rangeListenTimeout (hcore : JobCore s) (b : Branch) : Kept s (s.rangeListenTimeout b) := by
  unfold State.rangeListenTimeout
  split
  · dsimp only
    split
    next j hhead =>
      split
      next h =>
        obtain ⟨hstage, -⟩ := h
        obtain ⟨js, hqueue⟩ := head_queue hhead
        have hended := laws_endListening hcore b
        have hbears := bears_of_ranging hended.core ((endListening_queue s b b).trans hqueue) (.inl hstage)
        exact hended.trans (laws_endBound hended.core (endListening_head hcore hhead) hbears (alike_result _ _) _)
      next => exact laws_regrant hcore b
    next => exact laws_regrant hcore b
  · exact .refl hcore

theorem laws_admitExpired (hcore : JobCore s) (hhead : s.head b = some j) (hstage : j.stage = .admitting) :
    Kept s (s.admitExpired b j) := by
  obtain ⟨js, hqueue⟩ := head_queue hhead
  have hbears := bears_of_ranging hcore hqueue (.inr hstage)
  have hjob := head_jobOf hcore hhead
  have hcalled := (alike_sendCall s b (.withdraw ((s.entry j.drop).serial.getD 0))).kept hcore
  have hentry : (s.sendCall b (.withdraw ((s.entry j.drop).serial.getD 0))).entry j.drop = s.entry j.drop := rfl
  have hjob' : (s.sendCall b (.withdraw ((s.entry j.drop).serial.getD 0))).jobOf j.drop = some j := hjob
  unfold State.admitExpired
  dsimp only
  generalize s.sendCall b (.withdraw ((s.entry j.drop).serial.getD 0)) = u at *
  rw [← hentry] at hbears ⊢
  exact hcalled.trans (laws_endBound hcalled.core hjob' hbears (alike_result _ _) _)

theorem laws_admitWaitExpiry (hcore : JobCore s) (b : Branch) : Kept s (s.admitWaitExpiry b) := by
  unfold State.admitWaitExpiry
  split
  next j hhead =>
    split
    next hstage => exact laws_admitExpired hcore hhead hstage
    next => exact .refl hcore
  next => exact .refl hcore

theorem alike_rangeOverflow (s : State) (b : Branch) : Alike s (s.rangeOverflow b) := alike_setBranch s rfl rfl

/-! Presence ticks (R123, R124, R127) -/

theorem alike_countEntry (s : State) (d : Drop) : Alike s (s.countEntry d) := by
  rcases countEntry_cases s d with h | ⟨p, -, hpresence, -, h⟩ <;> rw [h]
  · exact .refl s
  · exact alike_setEntry s ⟨rfl, rfl, rfl, by rw [hpresence]; rfl⟩

/-- An ACTIVE entry has no job and no pending flag, and may fall silent. -/
theorem laws_silenced (hcore : JobCore s) {d : Drop} (hstate : (s.entry d).state = .active) (p : PresenceRecord) :
    Kept s (s.setEntry d { s.entry d with
      state := .silent, rejoinPending := false, presence := some { p with frozen := true } }) := by
  have hfree : s.jobOf d = none := no_job (hcore.drops d).paired (by rw [hstate]; decide)
  refine laws_setEntry hcore ⟨fun _ => rfl, fun h => h.trans (by rw [hstate]; rfl), .inl rfl⟩ ?_ fun h => nomatch h
  rw [hfree]
  exact dropLaw_none ⟨fun h => (by cases h), fun h => (by cases h)⟩ rfl

theorem laws_silenceIfDue (hcore : JobCore s) (d : Drop) : Kept s (s.silenceIfDue d) := by
  rcases silenceIfDue_cases s d with h | ⟨p, hstate, hpresence, hlimit⟩
  · rw [h]
    exact .refl hcore
  · rw [silenceIfDue_reached hstate hpresence hlimit]
    have hset := laws_silenced hcore hstate p
    exact hset.trans ((alike_raise _ _).kept hset.core)

theorem laws_presenceTick (hcore : JobCore s) : Kept s s.presenceTick := by
  have hticked : Alike s { s with baseTick := (s.baseTick + 1) % 8 } := .of_parts rfl rfl rfl rfl rfl rfl rfl
  have hcounted : Alike s (allDrops.foldl State.countEntry { s with baseTick := (s.baseTick + 1) % 8 }) :=
    hticked.trans (.foldl alike_countEntry _ _)
  have hkept := hcounted.kept hcore
  exact hkept.trans (.foldl (fun d hcore => laws_silenceIfDue hcore d) _ hkept.core)

end

end Sys2Proof.Machine

/-! PROOFS. The laws through HOLD, a changed mode and a reset (R34, R47, R48, R146, R163, R164, R167). -/

namespace Sys2Proof.Machine

section
variable {s : State}

/-! Laws that need the modes together -/

/-- The laws go on from the first state to the second, those that bound the queues under a condition. -/
structure KeptUnder (p : Prop) (s t : State) : Prop extends CoreKept s t where
  full : p → FullLaw s → FullLaw t
  intake : p → s.IntakeLaw → t.IntakeLaw

theorem Kept.under {s t : State} {p : Prop} (h : Kept s t) : KeptUnder p s t := ⟨h.toCoreKept, fun _ => h.full, fun _ => h.intake⟩

theorem KeptUnder.refl {p : Prop} (hcore : JobCore s) : KeptUnder p s s := (Kept.refl hcore).under

theorem KeptUnder.trans {p q : Prop} {s t u : State} (hst : KeptUnder p s t) (htu : KeptUnder q t u) (h : p → q) :
    KeptUnder p s u :=
  ⟨hst.toCoreKept.trans htu.toCoreKept, fun hp => htu.full (h hp) ∘ hst.full hp, fun hp => htu.intake (h hp) ∘ hst.intake hp⟩

theorem KeptUnder.mono {p q : Prop} {s t : State} (h : KeptUnder q s t) (hpq : p → q) : KeptUnder p s t :=
  ⟨h.toCoreKept, fun hp => h.full (hpq hp), fun hp => h.intake (hpq hp)⟩

theorem KeptUnder.kept {p : Prop} {s t : State} (h : KeptUnder p s t) (hp : p) : Kept s t :=
  ⟨h.toCoreKept, h.full hp, h.intake hp⟩

/-! The modes -/

/-- A change of the modes and the monitor keeps the laws, but for those that read whether intake is open. -/
theorem laws_modes {t : State} (hcore : JobCore s)
    (hframe : t = { s with monitor := t.monitor, mode := t.mode, resume := t.resume }) :
    KeptUnder (t.intakeOpen = s.intakeOpen) s t := by
  have hkept : CoreKept s t := by
    rw [hframe]
    exact ⟨⟨hcore.queues, hcore.drops⟩, id, id, id⟩
  have hlength (b : Branch) : (t.queue b).length = (s.queue b).length := by
    rw [hframe]
    rfl
  have hflags (d : Drop) (h : (t.entry d).rejoinPending = true) : (s.entry d).rejoinPending = true := by
    rw [hframe] at h
    exact h
  have hrunning : t.isRunning = s.isRunning := by
    rw [hframe]
    rfl
  have heven (h : t.intakeOpen = s.intakeOpen) : Even s t := ⟨hlength, hflags, h, hrunning⟩
  exact ⟨hkept, fun h => (heven h).full, fun h => (heven h).intakeLaw⟩

/-! Entry into HOLD (R47, R163) -/

theorem RosterKept.refl (s : State) : RosterKept s s := ⟨fun _ => .refl _, fun _ => .refl _, rfl⟩

theorem RosterKept.trans {s t u : State} (hst : RosterKept s t) (htu : RosterKept t u) : RosterKept s u :=
  ⟨fun d => (hst.entry d).trans (htu.entry d), fun b => (htu.arrivals b).trans (hst.arrivals b),
    htu.running.trans hst.running⟩

/-- The jobs, the entries and the arrivals of the second state keep the laws of the first, and its generators stand. -/
structure HeldKept (s t : State) : Prop where
  core : JobCore t
  roster : RosterKept s t
  even : Even s t
  generators : t.generators = s.generators

theorem HeldKept.refl (hcore : JobCore s) : HeldKept s s := ⟨hcore, .refl s, .refl s, rfl⟩

theorem HeldKept.trans {s t u : State} (hst : HeldKept s t) (htu : HeldKept t u) : HeldKept s u :=
  ⟨htu.core, hst.roster.trans htu.roster, hst.even.trans htu.even, htu.generators.trans hst.generators⟩

theorem keeps_onHold {e : Entry} {j : Job} (h : DropLaw e (some j)) : EntryKeeps e (e.onHold j.stage) := by
  unfold Entry.onHold
  split
  · exact (keeps_enter_unbound e (.inl rfl)).trans (alike_result _ _).keeps
  next hstage =>
    refine (keeps_enter_bound ?_).trans (alike_result _ _).keeps
    rw [(paired_running h.paired).2 (.inl hstage)]
    rfl
  · exact .refl e

/-- A head job and its entry are paired again on entry into HOLD (R11, R47). -/
theorem dropLaw_onHold {e : Entry} {j : Job} (h : DropLaw e (some j)) : DropLaw (e.onHold j.stage) (some j.onHold) := by
  have hunlit {f : Entry} (hclear : f.rejoinPending = false) {P : Prop} : f.rejoinPending = true → P :=
    fun hflag => by rw [hclear] at hflag; cases hflag
  cases hstage : j.stage with
  | waiting | admitting =>
    have hjob : j.onHold = j := by simp only [Job.onHold, hstage]
    rw [hjob]
    exact h
  | waitTrace =>
    obtain ⟨hkind, hplanned⟩ := waitTrace_paired h.paired hstage
    have hjob : j.onHold = { j with stage := .waiting, attempts := 0 } := by simp only [Job.onHold, hstage]
    rw [hjob]
    exact ⟨by simp [paired, hkind, Entry.onHold, hplanned], hunlit h.clear⟩
  | matching =>
    have hjob : j.onHold = { j with kind := .activate, stage := .waiting, attempts := 0 } := by
      simp only [Job.onHold, hstage]
    rw [hjob]
    exact ⟨by simp [paired, Entry.onHold, Entry.result, enter_state], hunlit (unbound_clear h (.inl rfl))⟩
  | range =>
    have hjob : j.onHold = { j with kind := .rejoin, stage := .waiting, attempts := 0 } := by
      simp only [Job.onHold, hstage]
    rw [hjob]
    exact ⟨by simp [paired, Entry.onHold, Entry.result, enter_state], hunlit (bound_clear h.clear)⟩

theorem heldKept_holdBranch (hcore : JobCore s) (b : Branch) : HeldKept s (s.holdBranch b) := by
  cases hqueue : s.queue b with
  | nil =>
    have hheld : s.holdBranch b = s.setBranch b (s.branch b).onHold := by simp only [State.holdBranch, hqueue]
    have hempty : ∀ c, (s.setBranch b (s.branch b).onHold).queue c = s.queue c := fun c => by
      rw [State.queue, State.setBranch_branch]
      split
      next hbc =>
        rw [onHold_queue, ← hbc, show (s.branch b).queue = [] from hqueue, hqueue]
        rfl
      next => rfl
    rw [hheld]
    refine ⟨⟨fun c => ?_, fun d => ?_⟩, ⟨fun _ => .refl _, fun _ => .refl _, rfl⟩,
      ⟨fun c => congrArg List.length (hempty c), fun _ h => h, rfl, rfl⟩, rfl⟩
    · rw [hempty]
      exact hcore.queues c
    · rw [State.jobOf, hempty]
      exact hcore.drops d
  | cons j js =>
    have hheld : s.holdBranch b = s.moveHead b (s.branch b).onHold j.drop ((s.entry j.drop).onHold j.stage) := by
      simp only [State.holdBranch, hqueue]
      rfl
    have hlaw := dropLaw_head hcore hqueue
    have hlaw' := dropLaw_onHold hlaw
    have hc : (s.branch b).onHold.queue = j.onHold :: js := by
      rw [onHold_queue, show (s.branch b).queue = j :: js from hqueue]
      rfl
    rw [hheld]
    refine ⟨jobCore_moveHead hcore hqueue (job_onHold_drop j) hc hlaw', ⟨fun d => ?_, fun _ => .refl _, rfl⟩,
      even_moveHead hqueue hc hlaw'.clear, rfl⟩
    rw [moveHead_entry]
    split
    next hd =>
      rw [← hd]
      exact keeps_onHold hlaw
    next => exact .refl _

theorem heldKept_holdBranches (hcore : JobCore s) : HeldKept s (allBranches.foldl (fun t b => t.holdBranch b) s) :=
  foldl_keeps (P := HeldKept s) (fun _ b h => h.trans (heldKept_holdBranch h.core b)) allBranches (.refl hcore)

theorem laws_heldBack (hcore : JobCore s) : Kept s s.heldBack := by
  have hheld := heldKept_holdBranches hcore
  have hdetached := traceWork_detachWhere (allBranches.foldl (fun t b => t.holdBranch b) s) Generator.isBinding
  have hkept := (laws_detachWhere hheld.core Generator.isBinding)
  have hgen (g : Gen) : (s.heldBack.gen g).attached = none ∨ SameWave (s.gen g) (s.heldBack.gen g) := by
    refine (detachWhere_attached Generator.isBinding g).imp_right fun h => ?_
    have hsame : (allBranches.foldl (fun t b => t.holdBranch b) s).gen g = s.gen g :=
      congrArg (fun v : Vector Generator 8 => v[g]) hheld.generators
    rw [State.heldBack, h, hsame]
    exact .refl _
  exact CoreKept.kept ⟨hkept.core, fun hs => hkept.serial (hheld.roster.serial hs),
    fun hs => hkept.presence (hheld.roster.presence hs), fun hs =>
      genInv_of_fewer hs hgen fun g d b hg => absurd hg (heldBack_gen s g d b)⟩ (hheld.even.trans hdetached.even)

theorem fallen_intake (s : State) : s.fallen.intakeOpen = s.intakeOpen := by
  cases hmode : s.mode <;> simp [State.fallen, State.inForce, State.intakeOpen, hmode]

theorem laws_enterHold (hcore : JobCore s) : Kept s s.enterHold := by
  have hfallen := (laws_modes (t := s.fallen) hcore rfl).kept (fallen_intake s)
  have hheld := hfallen.trans (laws_heldBack hfallen.core)
  rw [enterHold_eq]
  exact hheld.trans ((alike_raise _ _).kept hheld.core)

/-! The recovery (R48, R164) -/

theorem laws_leaveHold (hcore : JobCore s) : KeptUnder (s.mode = .hold) s s.leaveHold := by
  have hmodes := laws_modes (t := { s with monitor := .ok, mode := s.resume.mode }) hcore rfl
  have hdue := (alike_dueOpenCalls { s with monitor := .ok, mode := s.resume.mode }).kept hmodes.core
  have hproceeds := hdue.trans (laws_proceedAll hdue.core)
  refine (hmodes.trans (hproceeds.trans ((alike_raise _ _).kept hproceeds.core)).under id).mono fun hhold => ?_
  cases hresume : s.resume <;> simp [State.intakeOpen, hhold, hresume, RunMode.mode]

/-! A changed mode (R34, R146) -/

theorem coreKept_putMode (hcore : JobCore s) (m : RunMode) : CoreKept s (s.putMode m) :=
  (laws_modes (t := s.putMode m) hcore rfl).toCoreKept

theorem putMode_intake (s : State) (m : RunMode) : (s.putMode m).intakeOpen = decide (m = .live) := by
  cases m <;> cases hmode : s.mode <;> simp [State.putMode, State.intakeOpen, hmode, RunMode.mode]

/-- SURVEY closes intake, and so is taken up while no job stands alone (R29, R147). -/
theorem laws_changeMode_survey (hcore : JobCore s) (hempty : ∀ b, s.queue b = []) : Kept s (s.changeMode .survey) :=
  ⟨coreKept_putMode hcore .survey, fun _ hopen => absurd ((putMode_intake s .survey).symm.trans hopen) (by decide),
    fun _ _ => hempty⟩

theorem laws_changeMode_live (hcore : JobCore s) (hrun : s.isRunning = true) : Kept s (s.changeMode .live) := by
  have hput := coreKept_putMode hcore .live
  have hfilled := hput.trans (coreKept_fillAll hput.core)
  have hwork := jobWork_fillAll (s.putMode .live)
  have hopen : (s.putMode .live).fillAll.intakeOpen = true := hwork.intake.trans (putMode_intake s .live)
  have hrunning : (s.putMode .live).fillAll.isRunning = true := hwork.running.trans hrun
  have hkept : Kept s (s.putMode .live).fillAll :=
    ⟨hfilled, fun _ => fullLaw_fillAll hput.core, fun _ hclosed => by simp [hopen, hrunning] at hclosed⟩
  unfold State.changeMode
  dsimp only
  split
  · exact hkept
  · exact hkept.trans (laws_proceedAll hkept.core)

/-! Resets (R167) -/

/-- A reset leaves no job, no serial, no presence record and no attached generator. -/
theorem laws_takeReset (src : ResetSource) (s : State) : Kept s (s.takeReset src) := by
  have hqueue (b : Branch) : (s.takeReset src).queue b = [] := by
    rw [State.queue, takeReset_branch]
    rfl
  have hentry := takeReset_entry (src := src) (s := s)
  have hgen := takeReset_gen (src := src) (s := s)
  have hlist := takeReset_arrivalsOf (src := src) (s := s)
  generalize s.takeReset src = t at *
  have hnone (d : Drop) : t.jobOf d = none := by rw [State.jobOf, hqueue]; rfl
  have hlisted : t.listedSerials = [] := List.eq_nil_iff_forall_not_mem.mpr fun n hn => by
    obtain ⟨b, hb⟩ := mem_listedSerials.mp hn
    rw [hlist] at hb
    cases hb
  refine ⟨⟨⟨fun b => ?_, fun d => ?_⟩, fun _ => ?_, fun _ d => ?_, fun _ => ⟨fun g h _ hg => ?_, fun g => ?_⟩⟩,
    fun _ _ d hd => ?_, fun _ _ => hqueue⟩
  · rw [hqueue]
    exact ⟨Nat.zero_le _, List.nodup_nil, fun _ h => (by cases h), fun _ h => (by cases h)⟩
  · rw [hentry, hnone]
    exact ⟨rfl, fun h => nomatch h⟩
  · rw [serialInv_iff]
    refine ⟨fun d => by rw [hentry]; rfl, fun d e _ hsome => ?_, fun b => ?_, ?_, fun n hn => ?_, fun _ => hlisted⟩
    · rw [hentry] at hsome
      cases hsome
    · rw [hlist]
      exact Nat.zero_le _
    · rw [hlisted]
      exact List.nodup_nil
    · rw [hlisted] at hn
      cases hn
  · rw [hentry]
    rfl
  · rw [hgen] at hg
    cases hg
  · rw [hgen]
    rfl
  · rw [hentry] at hd
    cases hd

/-- What the Supply Monitor calls for keeps every law of a part whose monitor is LOW in HOLD alone (R144). -/
theorem laws_superviseSupply (hcore : JobCore s) :
    KeptUnder (s.monitor = .low → s.mode = .hold) s s.superviseSupply := by
  unfold State.superviseSupply
  split
  · split
    · exact (laws_takeReset _ s).under
    · split
      next hlow => exact (laws_leaveHold hcore).mono fun h => h hlow.1
      next => exact .refl hcore
  · split
    · split
      · exact (laws_enterHold hcore).under
      · exact .refl hcore
    next hlow =>
      split
      · exact .refl hcore
      · exact (laws_leaveHold hcore).mono fun h => h hlow

end

end Sys2Proof.Machine

/-! PROOFS. The laws through the start-up scan, the holds and the supply (R157 to R160, R165, R167, R171). -/

namespace Sys2Proof.Machine

section
variable {s : State}

/-! The reading of the header (R157) -/

theorem alike_idle {t : State} (hframe : t = { s with
      startup := t.startup, settings := t.settings, estateId := t.estateId, headerImage := t.headerImage
      unsaved := t.unsaved }) (hrun : t.isRunning = s.isRunning) : Alike s t where
  queue b := by rw [hframe]; rfl
  marks b := by rw [hframe]; rfl
  entry d := by rw [hframe]; exact .refl _
  gen g := by rw [hframe]; exact .refl _
  arrivals b := by rw [hframe]; exact .refl _
  running := hrun
  intake := by rw [hframe]; rfl

theorem alike_readHeader {h : Bool} (hscan : s.startup = .scanning h) : Alike s s.readHeader := by
  obtain ⟨u, hu, hread⟩ := readHeader_eq s
  have hstartup : u.startup = .scanning true := by rw [hu]
  have hrun : u.isRunning = s.isRunning := by simp [State.isRunning, hscan, hstartup]
  have hkept : Alike s u := by
    refine alike_idle ?_ hrun
    rw [hstartup]
    exact hu
  rcases hread with hr | hr <;> rw [hr]
  · exact hkept
  · exact hkept.trans (alike_raise u _)

theorem readHeader_monitor (s : State) : s.readHeader.monitor = s.monitor := by
  obtain ⟨u, hu, hread⟩ := readHeader_eq s
  have hmonitor : u.monitor = s.monitor := by rw [hu]
  rcases hread with hr | hr <;> rw [hr]
  · exact hmonitor
  · exact hmonitor

/-! The reading of the slots (R158, R159) -/

/-- A restored entry is VACANT, PLANNED, or BOUND with a serial, and has no pending flag and no presence record. -/
theorem restored_states (s : State) (d : Drop) : (s.restored d).rejoinPending = false ∧ (s.restored d).presence = none ∧
    (s.restored d).state ∈ [.vacant, .planned, .bound] ∧
    (s.restored d).serial.isSome = (s.restored d).state.bearsSerial := by
  cases hcandidate : s.candidate d with
  | none =>
    have hrestored : s.restored d = .empty := by simp only [State.restored, hcandidate]
    rw [hrestored]
    exact ⟨rfl, rfl, by simp [Entry.empty], rfl⟩
  | some body =>
    have himage := candidate_eq_some_iff.mp hcandidate
    cases hbeaten : s.beaten d body with
    | true =>
      rw [restored_beaten himage hbeaten]
      exact ⟨rfl, rfl, by simp, rfl⟩
    | false =>
      rw [restored_winner himage hbeaten]
      exact ⟨rfl, rfl, by simp, rfl⟩

theorem restored_serial {d : Drop} {n : Serial} (h : (s.restored d).serial = some n) :
    ∃ body, s.image d = .filled body ∧ s.beaten d body = false ∧ body.serial = n := by
  cases hcandidate : s.candidate d with
  | none =>
    simp only [State.restored, hcandidate] at h
    cases h
  | some body =>
    have himage := candidate_eq_some_iff.mp hcandidate
    cases hbeaten : s.beaten d body with
    | true =>
      rw [restored_beaten himage hbeaten] at h
      cases h
    | false =>
      rw [restored_winner himage hbeaten] at h
      exact ⟨body, himage, hbeaten, Option.some.inj h⟩

/-- Of two slots with one serial at most one is restored with it (R159). -/
theorem restored_apart {d e : Drop} (hne : d ≠ e) {n : Serial} (hd : (s.restored d).serial = some n)
    (he : (s.restored e).serial = some n) : False := by
  obtain ⟨bd, himaged, hwind, hserd⟩ := restored_serial hd
  obtain ⟨be, himagee, hwine, hsere⟩ := restored_serial he
  have hsame : bd.serial = be.serial := hserd.trans hsere.symm
  have hnot (hwins : bd.seq < be.seq ∨ (bd.seq = be.seq ∧ e < d)) : False := by
    rw [beaten_iff.mpr ⟨e, be, hne.symm, himagee, hsame.symm, hwins⟩] at hwind
    cases hwind
  have hnot' (hwins : be.seq < bd.seq ∨ (be.seq = bd.seq ∧ d < e)) : False := by
    rw [beaten_iff.mpr ⟨d, bd, hne, himaged, hsame, hwins⟩] at hwine
    cases hwine
  rcases Nat.lt_trichotomy bd.seq be.seq with hlt | heq | hgt
  · exact hnot (.inl hlt)
  · rcases lt_or_gt_of_ne hne with hlt | hgt
    · exact hnot' (.inr ⟨heq.symm, hlt⟩)
    · exact hnot (.inr ⟨heq, hgt⟩)
  · exact hnot' (.inl hgt)

theorem dropLaw_restored (s : State) (d : Drop) : DropLaw (s.restored d) none := by
  obtain ⟨hclear, -, hstate, -⟩ := restored_states s d
  refine dropLaw_none ?_ hclear
  generalize (s.restored d).state = st at hstate
  revert hstate
  cases st <;> decide

theorem presence_restored (s : State) (d : Drop) : presenceFits (s.restored d).state (s.restored d).presence = true := by
  obtain ⟨-, hnone, hstate, -⟩ := restored_states s d
  rw [hnone]
  generalize (s.restored d).state = st at hstate ⊢
  revert hstate
  cases st <;> decide

/-- The serials of a part that does not run stand in its restored entries alone. -/
theorem serialInv_restored {u t : State} (hentry : ∀ d, t.entry d = u.restored d) (hlisted : t.listedSerials = []) :
    t.SerialInv := by
  rw [serialInv_iff]
  refine ⟨fun d => ?_, fun d e hne hsome heq => ?_, fun b => ?_, ?_, fun n hn => ?_, fun _ => hlisted⟩
  · rw [hentry]
    exact (restored_states u d).2.2.2
  · obtain ⟨n, hn⟩ := Option.isSome_iff_exists.mp hsome
    refine restored_apart (s := u) hne (n := n) ?_ ?_
    · rw [← hentry, hn]
    · rw [← hentry, ← heq, hn]
  · have hnone : (t.arrivalsOf b).items.map Arrival.serial = [] := List.eq_nil_iff_forall_not_mem.mpr fun n hn => by
      have hmem := mem_listedSerials.mpr ⟨b, hn⟩
      rw [hlisted] at hmem
      cases hmem
    rw [hnone]
    exact Nat.zero_le _
  · rw [hlisted]
    exact List.nodup_nil
  · rw [hlisted] at hn
    cases hn

/-- The restored roster keeps every law of a part that does not run. -/
theorem laws_scanned (hrun : s.isRunning = false) (hempty : ∀ b, s.queue b = []) (hcore : JobCore s) : Kept s s.scanned := by
  have hentry := scanned_entry s
  obtain ⟨images, roster, hframe⟩ := scanned_frame s
  have hqueue (b : Branch) : s.scanned.queue b = s.queue b := by rw [hframe]; rfl
  have hlisted : s.scanned.listedSerials = s.listedSerials := by rw [hframe]; rfl
  have hgen (hs : s.GenInv) : s.scanned.GenInv := by rw [hframe]; exact hs
  have hnone (d : Drop) : s.scanned.jobOf d = none := by rw [State.jobOf, hqueue, hempty]; rfl
  generalize s.scanned = t at *
  refine ⟨⟨⟨fun b => ?_, fun d => ?_⟩, fun hs => serialInv_restored hentry ?_, fun _ d => ?_, hgen⟩, fun _ _ d hd => ?_,
    fun _ _ b => ?_⟩
  · rw [hqueue]
    exact hcore.queues b
  · rw [hentry, hnone]
    exact dropLaw_restored _ d
  · rw [hlisted]
    obtain ⟨-, -, -, -, -, hidle⟩ := serialInv_iff.mp hs
    exact hidle hrun
  · rw [hentry]
    exact presence_restored _ d
  · rw [hentry, (restored_states _ d).1] at hd
    cases hd
  · rw [hqueue, hempty]

theorem alike_raiseScan (s : State) : Alike s.scanned s.readSlots := by
  rw [readSlots_raiseWhen]
  exact alike_raiseWhen _ _ _

/-! The opening of the part (R171) -/

theorem laws_opened (hcore : JobCore s) (hempty : ∀ b, s.queue b = []) (hflags : ∀ d, (s.entry d).rejoinPending = false) :
    Kept s s.opened where
  core := ⟨hcore.queues, hcore.drops⟩
  serial hs := by
    obtain ⟨hbears, hapart, hlength, hnodup, hfree, -⟩ := hs
    exact ⟨hbears, hapart, hlength, hnodup, hfree, fun h => (by cases h)⟩
  presence := id
  gen := id
  full _ _ d hd := by
    have hclear : (s.opened.entry d).rejoinPending = false := hflags d
    rw [hclear] at hd
    cases hd
  intake _ _ := hempty

theorem JobWork.monitor {s t : State} (h : JobWork s t) : t.monitor = s.monitor := by rw [h]

theorem readSlots_monitor (s : State) : s.readSlots.monitor = s.monitor := by
  obtain ⟨u, hu, hread⟩ := readSlots_eq s
  have hmonitor : u.monitor = s.monitor := by rw [hu]
  rcases hread with hr | hr <;> rw [hr]
  · exact hmonitor
  · exact hmonitor

theorem readSlots_entry (s : State) (d : Drop) : s.readSlots.entry d = s.imaged.restored d := by
  rw [readSlots_raiseWhen, ← scanned_entry]
  generalize s.scanned = u
  unfold State.raiseWhen
  split <;> rfl

theorem readSlots_queue (s : State) (b : Branch) : s.readSlots.queue b = s.queue b := by
  obtain ⟨u, hu, hread⟩ := readSlots_eq s
  have hqueue : u.queue b = s.queue b := by rw [hu]; rfl
  rcases hread with hr | hr <;> rw [hr]
  · exact hqueue
  · exact hqueue

/-- The slots are read and the part opens (R158, R171). -/
theorem laws_openPart (hcore : JobCore s) (hrun : s.isRunning = false) (hempty : ∀ b, s.queue b = []) :
    KeptUnder (s.monitor ≠ .low) s
      ((s.readSlots.opened.dueOpenCalls.raise .started).proceedAll).superviseSupply := by
  have hscanned := laws_scanned hrun hempty hcore
  have hread := hscanned.trans ((alike_raiseScan s).kept hscanned.core)
  have hqueue (b : Branch) : s.readSlots.queue b = [] := (readSlots_queue s b).trans (hempty b)
  have hflags (d : Drop) : (s.readSlots.entry d).rejoinPending = false := by
    rw [readSlots_entry]
    exact (restored_states _ d).1
  have hmonitor := readSlots_monitor s
  generalize s.readSlots = r at *
  have hopened := hread.trans (laws_opened hread.core hqueue hflags)
  have hdue := hopened.trans (((alike_dueOpenCalls r.opened).trans (alike_raise _ .started)).kept hopened.core)
  have hproceeds := hdue.trans (laws_proceedAll hdue.core)
  have hsame : (r.opened.dueOpenCalls.raise .started).proceedAll.monitor = s.monitor :=
    (jobWork_proceedAll (r.opened.dueOpenCalls.raise .started)).monitor.trans hmonitor
  refine (hproceeds.under (p := s.monitor ≠ .low)).trans (laws_superviseSupply hproceeds.core) fun hok hlow => ?_
  exact absurd (hsame.symm.trans hlow) hok

/-- A part that does not run is in SURVEY, and its monitor is OK (R163, R169). -/
theorem monitor_ok_of_idle (hrun : s.isRunning = false) (hmode : s.ModeInv) : s.monitor ≠ .low := by
  obtain ⟨hhold, -, hidle, -, -⟩ := hmode
  intro hlow
  have hsurvey := hidle hrun
  rw [hhold.mpr hlow] at hsurvey
  cases hsurvey

theorem laws_finishScan {h : Bool} (hscan : s.startup = .scanning h) (hcore : JobCore s) (hintake : s.IntakeLaw) :
    KeptUnder s.ModeInv s (s.finishScan h) := by
  have hrun : s.isRunning = false := by simp [State.isRunning, hscan]
  have hheader : Alike s (if h then s else s.readHeader) := by
    cases h with
    | true => exact .refl s
    | false => exact alike_readHeader hscan
  have hmonitor : (if h then s else s.readHeader).monitor = s.monitor := by
    cases h with
    | true => rfl
    | false => exact readHeader_monitor s
  rw [finishScan_eq]
  generalize (if h then s else s.readHeader) = u at *
  have hkept := hheader.kept hcore
  have hrunu := hheader.running.trans hrun
  have hopens := laws_openPart hkept.core hrunu (hkept.intake hintake (.inr hrunu))
  refine (hkept.under (p := s.ModeInv)).trans hopens fun hmode => ?_
  rw [hmonitor]
  exact monitor_ok_of_idle hrun hmode

/-! Holds and the supply (R165, R167) -/

theorem settleHolds_running (s : State) : s.settleHolds.isRunning = s.isRunning := by
  rw [settleHolds_eq]
  unfold State.isRunning
  dsimp only
  split
  next hfree => rw [hfree.1]; rfl
  next => rfl

theorem alike_settleHolds (s : State) : Alike s s.settleHolds := by
  have hrunning := settleHolds_running s
  rw [settleHolds_eq] at hrunning ⊢
  exact ⟨fun _ => rfl, fun _ => rfl, fun _ => .refl _, fun _ => .refl _, fun _ => .refl _, hrunning, rfl⟩

theorem alike_pinRelease (s : State) : Alike s { s with pinHold := false }.settleHolds :=
  (Alike.of_parts (s := s) (t := { s with pinHold := false }) rfl rfl rfl rfl rfl rfl rfl).trans (alike_settleHolds _)

theorem laws_takeLevel (hcore : JobCore s) (v : Nat) : KeptUnder s.ModeInv s (s.takeLevel v) := by
  have hlevel := (Alike.of_parts (s := s) (t := { s with supply := min 255 v }) rfl rfl rfl rfl rfl rfl rfl).kept hcore
  unfold State.takeLevel
  dsimp only
  split
  · exact (hlevel.trans (laws_takeReset _ _)).under
  · split
    · refine (hlevel.under (p := s.ModeInv)).trans (laws_superviseSupply hlevel.core) fun hmode hlow => ?_
      exact hmode.1.mpr hlow
    · exact (hlevel.trans ((alike_settleHolds _).kept hlevel.core)).under
    · exact hlevel.under

end

end Sys2Proof.Machine

/-! PROOFS. The laws through the requests (R18 to R23, R30, R31, R44, R45, R111 to R113, R130, R131, R135 to R138, R146,
R154 to R156, R166). -/

namespace Sys2Proof.Machine

section
variable {s : State}

/-! What the checks say (R18, R30, R143) -/

theorem stateCheck_eq_none_iff {d : Drop} {sts : List EntryState} : s.stateCheck d sts = none ↔ (s.entry d).state ∈ sts := by
  simp [State.stateCheck, failIf_eq_none]

/-- An entry of an accepted state has no job where the checks pass: the state admits none, or the job was looked for. -/
theorem no_job_of_checks (hcore : JobCore s) {d : Drop} {sts : List EntryState} {cs : List (Option Status)}
    (hpass : firstFailure cs = none) (hjob : s.jobCheck d sts ∈ cs)
    (hothers : (s.entry d).state ∉ sts → (s.entry d).state ∉ [.planned, .bound, .binding, .ranging]) : s.jobOf d = none := by
  by_contra hsome
  by_cases hstate : (s.entry d).state ∈ sts
  · have hcheck := firstFailure_eq_none.mp hpass _ hjob
    rw [jobCheck_eq_some hstate hsome] at hcheck
    cases hcheck
  · exact hsome (no_job (hcore.drops d).paired (hothers hstate))

theorem state_of_checks {d : Drop} {sts : List EntryState} {cs : List (Option Status)} (hpass : firstFailure cs = none)
    (hstate : s.stateCheck d sts ∈ cs) : (s.entry d).state ∈ sts :=
  stateCheck_eq_none_iff.mp (firstFailure_eq_none.mp hpass _ hstate)

/-! Requests on entries (R19 to R23, R131) -/

/-- The entry of a drop without a job may enter PLANNED or BLOCKED. -/
theorem laws_setUnbound (hcore : JobCore s) {d : Drop} (hfree : s.jobOf d = none) {st : EntryState}
    (hst : st = .planned ∨ st = .blocked) {e : Entry} (he : EntryAlike ((s.entry d).enter st) e) : Kept s (s.setEntry d e) := by
  refine laws_setEntry hcore ((keeps_enter_unbound _ hst).trans he.keeps) ?_ fun h => enter_flag (he.pending.symm.trans h)
  rw [hfree]
  exact he.dropLaw (dropLaw_unbound (hcore.drops d) hst)

theorem laws_unplan (hcore : JobCore s) {d : Drop} (hfree : s.jobOf d = none)
    (hstate : (s.entry d).state ∈ [.planned, .blocked]) : Kept s (s.setEntry d ((s.entry d).enter .vacant)) := by
  have hne : (s.entry d).state ≠ .vacant := fun h => by
    rw [h] at hstate
    simp at hstate
  refine laws_setEntry hcore (keeps_enter_vacant _) ?_ enter_flag
  rw [hfree]
  exact dropLaw_none (by rw [enter_state]; decide) (enter_rejoinPending hne (by decide))

theorem laws_withdraw (hcore : JobCore s) {d : Drop} (hfree : s.jobOf d = none) : Kept s (s.withdraw d) := by
  unfold State.withdraw
  dsimp only
  split
  · have hcalled := (alike_sendCall s d.branch (.withdraw ((s.entry d).serial.getD 0))).kept hcore
    have hentry : (s.sendCall d.branch (.withdraw ((s.entry d).serial.getD 0))).entry d = s.entry d := rfl
    have hfree' : (s.sendCall d.branch (.withdraw ((s.entry d).serial.getD 0))).jobOf d = none := hfree
    generalize s.sendCall d.branch (.withdraw ((s.entry d).serial.getD 0)) = u at *
    refine hcalled.trans (laws_setUnbound hcalled.core hfree' (.inl rfl) ?_)
    rw [hentry]
    exact ⟨rfl, rfl, rfl, rfl⟩
  · exact laws_setUnbound hcore hfree (.inl rfl) ⟨rfl, rfl, rfl, rfl⟩

theorem alike_setOffset (s : State) (v : OffsetParams) : Alike s (s.setOffset v) := alike_setEntry s ⟨rfl, rfl, rfl, rfl⟩

theorem presenceFits_cleared {p : Option PresenceRecord} (h : presenceFits .silent p = true) :
    presenceFits .active (p.map PresenceRecord.clearSilence) = true := by
  cases p with
  | none => simp [presenceFits] at h
  | some p => rfl

theorem laws_clearSilence (hcore : JobCore s) {d : Drop} (hstate : (s.entry d).state = .silent) :
    Kept s (s.clearSilence d) := by
  have hfree : s.jobOf d = none := no_job (hcore.drops d).paired (by rw [hstate]; decide)
  have hentered : (s.entry d).enter .active = { s.entry d with state := .active, rejoinPending := false } :=
    if_neg (by rw [hstate]; decide)
  unfold State.clearSilence
  rw [hentered]
  refine laws_setEntry hcore ⟨fun h => ?_, fun h => h.trans (by rw [hstate]; rfl), .inl rfl⟩ ?_ fun h => (by cases h)
  · rw [hstate] at h
    exact presenceFits_cleared h
  · rw [hfree]
    exact dropLaw_none ⟨fun h => (by cases h), fun h => (by cases h)⟩ rfl

/-! ACTIVATE and CANCEL (R31, R45) -/

theorem laws_activate (hcore : JobCore s) (hfull : FullLaw s) (hrun : s.isRunning = true) {d : Drop}
    (hopen : s.intakeOpen = true) (hfree : s.jobOf d = none) (hstate : (s.entry d).state ∈ [.planned, .bound])
    (hroom : (s.queue d.branch).length < 6) (p : Port) : Kept s (s.activate p d) := by
  have hclear : (s.entry d).rejoinPending = false := by
    rw [Bool.eq_false_iff]
    intro hflag
    have hlength := hfull hopen d hflag
    omega
  have hpaired : paired (s.entry d).state (some ⟨d, (s.entry d).state.activateKind, .waiting, .port p, 0⟩) = true := by
    have hcases : (s.entry d).state = .planned ∨ (s.entry d).state = .bound := by simpa using hstate
    rcases hcases with h | h <;> rw [h] <;> rfl
  have hjoined := laws_joined (r := .port p) hcore hfree hroom (.refl _)
    ⟨hpaired, fun hflag => (by rw [hclear] at hflag; cases hflag)⟩ hopen hrun
  rw [joined_self] at hjoined
  exact hjoined.trans (laws_proceed hjoined.core _)

theorem waiting_paired {st : EntryState} {j : Job} (hpaired : paired st (some j) = true)
    (hstage : j.stage = .waiting ∨ j.stage = .waitTrace) : st ≠ .binding ∧ st ≠ .ranging := by
  revert hpaired
  simp only [paired]
  rcases hstage with h | h <;> rw [h] <;> cases j.kind <;> cases st <;> decide

theorem laws_cancelled (hcore : JobCore s) {j : Job} (hjob : s.jobOf j.drop = some j) :
    Kept s (s.endJob j ((s.entry j.drop).cancelled j.stage) none) := by
  have hlaw : DropLaw (s.entry j.drop) (some j) := hjob ▸ hcore.drops j.drop
  have hresult := alike_result (s.entry j.drop) .cancelled
  have hwaits (h : j.stage = .waiting ∨ j.stage = .waitTrace) :
      Kept s (s.endJob j ((s.entry j.drop).result .cancelled) none) :=
    laws_endJob hcore hjob hresult.keeps (hresult.dropLaw (dropLaw_none (waiting_paired hlaw.paired h) hlaw.clear))
      (hresult.pending.trans hlaw.clear) none
  have hbears (h : j.stage = .range ∨ j.stage = .admitting) : (s.entry j.drop).state.bearsSerial = true := by
    rw [(paired_running hlaw.paired).2 h]
    rfl
  cases hstage : j.stage with
  | waiting => exact hwaits (.inl hstage)
  | waitTrace => exact hwaits (.inr hstage)
  | matching => exact laws_endUnbound hcore hjob (.inl rfl) (alike_result _ _) none
  | range => exact laws_endBound hcore hjob (hbears (.inl hstage)) (alike_result _ _) none
  | admitting => exact laws_endBound hcore hjob (hbears (.inr hstage)) (alike_result _ _) none

theorem laws_cancelJob (hcore : JobCore s) {j : Job} (hjob : s.jobOf j.drop = some j) : Kept s (s.cancelJob j) := by
  unfold State.cancelJob
  dsimp only
  split
  · have hcalled := (alike_sendCall s j.drop.branch (.withdraw ((s.entry j.drop).serial.getD 0))).kept hcore
    have hentry : (s.sendCall j.drop.branch (.withdraw ((s.entry j.drop).serial.getD 0))).entry j.drop = s.entry j.drop := rfl
    have hjob' : (s.sendCall j.drop.branch (.withdraw ((s.entry j.drop).serial.getD 0))).jobOf j.drop = some j := hjob
    generalize s.sendCall j.drop.branch (.withdraw ((s.entry j.drop).serial.getD 0)) = u at *
    rw [← hentry]
    exact hcalled.trans (laws_cancelled hcalled.core hjob')
  · exact laws_cancelled hcore hjob

/-! TRACE (R111, R112) -/

/-- A port's sequence that is lit, no binding code and played by no other generator keeps the generators apart. -/
theorem genInv_trace (hs : s.GenInv) {g : Gen} {d : Drop} (p : Port) {pattern : Steps} {l : Nat}
    (hlit : observedOf pattern l ≠ 0) (hnew : s.patternInUse (observedOf pattern l) = false) (hoff : s.genOn d = none) :
    (s.attach g d (.port p) pattern l).GenInv := by
  have hunused := mt patternInUse_iff.mpr (Bool.eq_false_iff.mp hnew)
  refine genInv_attach hs (g := g) (x := ⟨some (d, .port p), pattern, l, .cleared⟩) rfl (State.setGen_gen_same ..)
    (fun h hne => State.setGen_gen_ne _ _ _ _ hne.symm) (fun h _ a ha => genOn_eq_none_iff.mp hoff h a ha)
    (fun h _ hsome heq => ?_) ?_ fun _ _ _ _ _ hserves => hserves
  · exact hunused (.inr ⟨h, Option.isSome_iff_ne_none.mp hsome, heq⟩)
  · rw [playsRight_port rfl]
    simp only [Bool.and_eq_true, decide_eq_true_eq, List.all_eq_true]
    exact ⟨hlit, fun b _ heq => hunused (.inl ⟨b, heq.symm⟩)⟩

theorem laws_trace (hcore : JobCore s) {g : Gen} {p : Port} {v : TraceParams}
    (hpass : firstFailure (traceChecks s p v) = none) : Kept s (s.attach g v.drop (.port p) v.pattern v.length) := by
  obtain ⟨-, hlit, hnew, hoff⟩ : s.claimCheck p v.drop = none ∧ observedOf v.pattern v.length ≠ 0 ∧
      s.patternInUse (observedOf v.pattern v.length) = false ∧ s.genOn v.drop = none := by
    simpa [firstFailure_eq_none, traceChecks, failIf_eq_none] using hpass
  have hgen (hs : s.GenInv) := genInv_trace (g := g) (d := v.drop) hs p hlit hnew hoff
  exact ⟨⟨⟨hcore.queues, hcore.drops⟩, id, id, hgen⟩, id, id⟩

/-! Writes, claims and settings -/

theorem alike_beginWrite (s : State) (w : Write) : Alike s (s.beginWrite w) := by
  cases w <;> exact .of_parts rfl rfl rfl rfl rfl rfl rfl

theorem alike_claimDrop (s : State) (f : FieldPort) (d : Drop) : Alike s (s.claimDrop f d).1 := by
  have hlapse (t : State) : Alike t (t.clearLapse f d) := .of_parts rfl rfl rfl rfl rfl rfl rfl
  unfold State.claimDrop
  split
  · split
    · exact alike_setClaim s d _
    · exact .refl s
  · split
    · exact .refl s
    · exact (alike_setClaim s d _).trans (hlapse _)

theorem alike_putSettings (s : State) (st : Settings) : Alike s (s.putSettings st) := by
  unfold State.putSettings
  split
  · exact .refl s
  · exact .of_parts rfl rfl rfl rfl rfl rfl rfl

theorem putSettings_modes (s : State) (st : Settings) : (s.putSettings st).monitor = s.monitor ∧
    (s.putSettings st).mode = s.mode := by
  unfold State.putSettings
  split <;> exact ⟨rfl, rfl⟩

/-- A changed alarm level is compared with the supply at once (R166). -/
theorem laws_takeSettings (hcore : JobCore s) (st : Settings) : KeptUnder s.ModeInv s (s.takeSettings st) := by
  have hput := (alike_putSettings s st).kept hcore
  obtain ⟨hmonitor, hmode⟩ := putSettings_modes s st
  unfold State.takeSettings
  split
  · refine (hput.under (p := s.ModeInv)).trans (laws_superviseSupply hput.core) fun hmodes hlow => ?_
    rw [hmode]
    exact hmodes.1.mpr (hmonitor.symm.trans hlow)
  · exact hput.under

theorem queues_empty_of_no_job (h : s.anyJob = false) (b : Branch) : s.queue b = [] := by
  have hall : ∀ b ∈ allBranches, (s.queue b).isEmpty = true := by
    simpa [State.anyJob, List.any_eq_false] using h
  exact List.isEmpty_iff.mp (hall b (List.mem_finRange b))

theorem laws_changeMode (hcore : JobCore s) (hrun : s.isRunning = true) {m : RunMode}
    (hfree : m = .survey → s.anyJob = false) : Kept s (s.changeMode m) := by
  cases m with
  | survey => exact laws_changeMode_survey hcore (queues_empty_of_no_job (hfree rfl))
  | live => exact laws_changeMode_live hcore hrun

end

end Sys2Proof.Machine

/-! PROOFS. Every step keeps the laws of the jobs, serials, presence records and generators (R4, R10, R11, R26, R29, R107,
R116). -/

namespace Sys2Proof.Machine

section
variable {s : State}

/-! The requests with checks on an entry (R18 to R22, R30, R130) -/

theorem laws_planBody (r : Request) (hcore : JobCore s) : Kept s (planBody r s).1 := by
  refine withParams_state (.refl hcore) fun v _ => checked_state (.refl hcore) fun hpass => ?_
  have hstate := state_of_checks (s := s) (d := v.drop) (sts := [.vacant, .planned]) hpass (by simp)
  have hfree := no_job_of_checks (d := v.drop) (sts := [.planned]) hcore hpass (by simp) fun hno => by
    have hvacant : (s.entry v.drop).state = .vacant := by simp at hstate hno; tauto
    rw [hvacant]
    decide
  exact laws_setUnbound hcore hfree (.inl rfl) ⟨rfl, rfl, rfl, rfl⟩

theorem laws_unplanBody (r : Request) (hcore : JobCore s) : Kept s (unplanBody r s).1 := by
  refine withParams_state (.refl hcore) fun d _ => checked_state (.refl hcore) fun hpass => ?_
  have hstate := state_of_checks (s := s) (d := d) (sts := [.planned, .blocked]) hpass (by simp)
  refine laws_unplan hcore (no_job_of_checks (sts := [.planned]) hcore hpass (by simp) fun hno => ?_) hstate
  have hblocked : (s.entry d).state = .blocked := by simp at hstate hno; tauto
  rw [hblocked]
  decide

theorem laws_withdrawBody (r : Request) (hcore : JobCore s) : Kept s (withdrawBody r s).1 := by
  refine withParams_state (.refl hcore) fun d _ => checked_state (.refl hcore) fun hpass => ?_
  have hstate := state_of_checks (s := s) (d := d) (sts := [.active, .silent, .bound]) hpass (by simp)
  refine laws_withdraw hcore (no_job_of_checks (sts := [.bound]) hcore hpass (by simp) fun hno => ?_)
  have hheard : (s.entry d).state = .active ∨ (s.entry d).state = .silent := by simp at hstate hno; tauto
  rcases hheard with h | h <;> rw [h] <;> decide

theorem laws_unblockBody (r : Request) (hcore : JobCore s) : Kept s (unblockBody r s).1 := by
  refine withParams_state (.refl hcore) fun d _ => checked_state (.refl hcore) fun hpass => ?_
  have hstate := state_of_checks (s := s) (d := d) (sts := [.blocked]) hpass (by simp)
  have hblocked : (s.entry d).state = .blocked := by simpa using hstate
  exact laws_setUnbound hcore (no_job (hcore.drops d).paired (by rw [hblocked]; decide)) (.inl rfl) (.refl _)

theorem laws_clearSilenceBody (r : Request) (hcore : JobCore s) : Kept s (clearSilenceBody r s).1 := by
  refine withParams_state (.refl hcore) fun d _ => checked_state (.refl hcore) fun hpass => ?_
  have hstate := state_of_checks (s := s) (d := d) (sts := [.silent]) hpass (by simp)
  exact laws_clearSilence hcore (by simpa using hstate)

theorem laws_activateBody (r : Request) (hcore : JobCore s) (hfull : FullLaw s) (hrun : s.isRunning = true) :
    Kept s (activateBody r s).1 := by
  refine withParams_state (.refl hcore) fun d _ => checked_state (.refl hcore) fun hpass => ?_
  have hstate := state_of_checks (s := s) (d := d) (sts := [.planned, .bound]) hpass (by simp)
  have hfree := no_job_of_checks (sts := [.planned, .bound]) hcore hpass (by simp) fun hno => absurd hstate hno
  have hpass' := firstFailure_eq_none.mp hpass
  have hopen : s.intakeOpen = true := by
    have hcheck : failIf (!s.intakeOpen) .mode = none := hpass' _ (by simp)
    simpa [failIf_eq_none] using hcheck
  have hroom : ¬ Config.queueLimit ≤ (s.queue d.branch).length := by
    have hcheck : failIf (Config.queueLimit ≤ (s.queue d.branch).length) .queueFull = none := hpass' _ (by simp)
    simpa [failIf_eq_none] using hcheck
  exact laws_activate hcore hfull hrun hopen hfree hstate (Nat.not_le.mp hroom) r.port

theorem laws_cancelBody (r : Request) (hcore : JobCore s) : Kept s (cancelBody r s).1 := by
  have hsame : Kept s s := .refl hcore
  refine withParams_state hsame fun d _ => ?_
  cases hjob : s.jobOf d with
  | none => exact checked_state hsame fun _ => hsame
  | some j =>
    obtain ⟨-, rfl⟩ := mem_of_jobOf hjob
    have hended := laws_cancelJob hcore hjob
    exact checked_state hsame fun _ => hended

theorem alike_write {t : State} (h : Alike s t) (w : Write) : Alike s (t.beginWrite w) := h.trans (alike_beginWrite t w)

theorem alike_takeSeq (s : State) : Alike s s.takeSeq := .of_parts rfl rfl rfl rfl rfl rfl rfl

theorem alike_saveSettings (s : State) (estate : Option (BitVec 32)) : Alike s (s.saveSettings estate) :=
  alike_write (.of_parts (s := s) (t := { s with estateId := estate.getD s.estateId, unsaved := false })
    rfl rfl rfl rfl rfl rfl rfl) (.header s.settings (estate.getD s.estateId))

/-! Requests -/

/-- Every request keeps the laws; the kinds that do more than read are carried out in RUNNING alone (R170). -/
theorem laws_requestBody {k : RequestKind} (r : Request) (hcore : JobCore s) (hfull : FullLaw s)
    (hrun : k.duringScan = false → s.isRunning = true) : KeptUnder s.ModeInv s (requestBody k r s).1 := by
  have hsame : KeptUnder s.ModeInv s s := .refl hcore
  have halike {t : State} (h : Alike s t) : KeptUnder s.ModeInv s t := (h.kept hcore).under
  cases k with
  | readIdentity | readEntry | readArrivals | readQueue | readGenerator | readLane | readUnknownKinds | readSettings
  | readSupply | readStore | readClaims =>
    rw [requestBody, readOut_state]
    exact hsame
  | readEvents | readResetCause | setAlertMask =>
    exact withParams_state hsame fun _ _ => halike (alike_setPort s r.port _)
  | clearLane => exact withParams_state hsame fun b _ => halike (alike_setLane s b _)
  | clearUnknownKinds => exact withParams_state hsame fun _ _ => halike (.of_parts rfl rfl rfl rfl rfl rfl rfl)
  | restart => exact withParams_state hsame fun _ _ => hsame
  | plan => exact (laws_planBody r hcore).under
  | unplan => exact (laws_unplanBody r hcore).under
  | withdraw => exact (laws_withdrawBody r hcore).under
  | unblock => exact (laws_unblockBody r hcore).under
  | clearSilence => exact (laws_clearSilenceBody r hcore).under
  | activate => exact (laws_activateBody r hcore hfull (hrun rfl)).under
  | cancel => exact (laws_cancelBody r hcore).under
  | setOffset => exact withParams_state hsame fun v _ => checked_state hsame fun _ => halike (alike_setOffset s v)
  | forgetArrival => exact withParams_state hsame fun n _ => checked_state hsame fun _ => halike (alike_unlist s n)
  | trace =>
    refine withParams_state hsame fun v _ => ?_
    cases s.freeGen with
    | none => exact checked_state hsame fun _ => hsame
    | some g => exact checked_state hsame fun hpass => (laws_trace hcore hpass).under
  | untrace =>
    refine withParams_state hsame fun d _ => ?_
    cases s.genOn d with
    | none => exact checked_state hsame fun _ => hsame
    | some g => exact checked_state hsame fun _ => (laws_detachAndOffer hcore _).under
  | claim => exact withParams_state hsame fun d _ => withField_state hsame fun f => halike (alike_claimDrop s f d)
  | renew =>
    refine withParams_state hsame fun d _ => withField_state hsame fun f => ?_
    split
    · exact halike (alike_setClaim s d _)
    · exact hsame
  | release =>
    refine withParams_state hsame fun d _ => withField_state hsame fun f => ?_
    split
    · exact (laws_releaseClaim hcore f d).under
    · exact hsame
  | revoke =>
    refine withParams_state hsame fun d _ => ?_
    cases s.claim d with
    | none => exact hsame
    | some c => exact (laws_revokeClaim hcore c.holder d).under
  | commit =>
    exact withParams_state hsame fun d _ => checked_state hsame fun _ =>
      halike (alike_write (alike_takeSeq s) (.slot d (.filled (s.snapshot d))))
  | releaseSlot =>
    exact withParams_state hsame fun d _ => checked_state hsame fun _ =>
      halike (alike_write (alike_takeSeq s) (.slot d (.empty s.nextSeq)))
  | saveSettings =>
    exact withParams_state hsame fun estate _ => checked_state hsame fun _ => halike (alike_saveSettings s estate)
  | setMode =>
    refine withParams_state hsame fun m _ => ?_
    split
    · exact hsame
    · refine checked_state hsame fun hpass => (laws_changeMode hcore (hrun rfl) fun hm => ?_).under
      have hcheck := firstFailure_eq_none.mp hpass _ (List.mem_cons_self ..)
      simpa [failIf_eq_none, hm] using hcheck
  | setSetting => exact withParams_state hsame fun st _ => laws_takeSettings hcore st

theorem KeptUnder.alike {p : Prop} {s t u : State} (h : KeptUnder p s t) (ha : Alike t u) : KeptUnder p s u :=
  h.trans (ha.kept h.core).under id

theorem laws_takeRequest (hcore : JobCore s) (hfull : FullLaw s) (k : RequestKind) (r : Request) :
    KeptUnder s.ModeInv s (s.takeRequest k r (requestBody k r)) := by
  have hsame : KeptUnder s.ModeInv s s := .refl hcore
  unfold State.takeRequest
  split
  · exact hsame
  · split
    · exact hsame.alike (alike_respond s r _ _)
    next hscan =>
      split
      · exact hsame.alike (alike_respond s r _ _)
      · refine (laws_requestBody r hcore hfull fun hkind => ?_).alike (alike_respond _ r _ _)
        simpa [hkind] using hscan

theorem laws_restartNow (hcore : JobCore s) (p : Port) (tag : Byte) : Kept s (s.restartNow p tag) :=
  ((alike_setPort s p _).kept hcore).trans (laws_takeReset _ _)

theorem alike_holdRestart (s : State) (r : Request) : Alike s (s.holdRestart r) := .of_parts rfl rfl rfl rfl rfl rfl rfl

/-- Every request answers a next state and keeps the laws. -/
theorem laws_request {c : Instr} {k : RequestKind} {r : Request} (hcore : JobCore s) (hfull : FullLaw s)
    (hreq : request? c = some (k, r)) : ∃ t, exec c s = .next t ∧ KeptUnder s.ModeInv s t := by
  have hplain := laws_takeRequest hcore hfull k r
  by_cases hset : k = .setSetting ∧ s.resetFollows r = true
  · obtain ⟨rfl, hreset⟩ := hset
    cases c with
    | setSetting q =>
      cases hreq
      refine ⟨_, rfl, ?_⟩
      rw [if_pos hreset]
      exact (hplain.alike (alike_sendOut _ _)).trans (laws_takeReset _ _).under id
    | _ => cases hreq
  · by_cases hrestart : k = .restart ∧ s.restartTaken r = true
    · obtain ⟨rfl, htaken⟩ := hrestart
      cases c with
      | restart q =>
        cases hreq
        refine ⟨_, rfl, ?_⟩
        rw [if_pos htaken]
        split
        · exact ((alike_holdRestart s r).kept hcore).under
        · exact (laws_restartNow hcore _ _).under
      | _ => cases hreq
    · refine ⟨_, exec_request hreq (fun hk => ?_) (fun hk => ?_), hplain⟩
      · simpa [hk] using hset
      · simpa [hk] using hrestart

/-! Store writes and passing time -/

theorem alike_completeWrite (s : State) (w : Write) : Alike s (s.completeWrite w) := by
  cases w <;> exact .of_parts rfl rfl rfl rfl rfl rfl rfl

theorem laws_storeWriteComplete (hcore : JobCore s) : Kept s s.storeWriteComplete := by
  unfold State.storeWriteComplete
  split
  next w _ =>
    have hdone := (alike_completeWrite s w).kept hcore
    dsimp only
    split
    · exact hdone.trans (laws_restartNow hdone.core _ _)
    · exact hdone
  next => exact .refl hcore

theorem alike_timePasses (s : State) : Alike s s.timePasses := by
  unfold State.timePasses
  split
  next hscan => exact alike_readHeader hscan
  next => exact alike_pass s
  next => exact .refl s

/-! Every command -/

theorem laws_whileRunning {act : State → State} (hcore : JobCore s) (h : s.isRunning = true → Kept s (act s)) :
    ∃ t, s.whileRunning act = .next t ∧ KeptUnder s.ModeInv s t := by
  cases hrun : s.isRunning with
  | true => exact ⟨_, whileRunning_run act hrun, (h hrun).under⟩
  | false => exact ⟨_, whileRunning_idle act hrun, .refl hcore⟩

theorem Alike.ite {s t : State} {p : Prop} [Decidable p] (h : Alike s t) : Alike s (if p then t else s) := by
  split
  · exact h
  · exact .refl s

theorem alike_countBadFrame (s : State) (p : Port) : Alike s (s.countBadFrame p) := alike_setPort s p _

theorem alike_setIgnoring (s : State) (p : Port) (v : Bool) : Alike s (s.setIgnoring p v) := alike_setPort s p _

/-- Every command answers a next state, and keeps the laws. -/
theorem exec_keepsLaws (c : Instr) (hinv : s.JobInv) : ∃ t, exec c s = .next t ∧ KeptUnder s.ModeInv s t := by
  obtain ⟨hcore, hfull, hintake⟩ := jobInv_iff.mp hinv
  have halike {t : State} (h : Alike s t) : KeptUnder s.ModeInv s t := (h.kept hcore).under
  have hruns {act : State → State} (h : Alike s (act s)) := laws_whileRunning hcore (act := act) fun _ => h.kept hcore
  have hworks {act : State → State} (h : Kept s (act s)) := laws_whileRunning hcore (act := act) fun _ => h
  cases hreq : request? c with
  | some kr => exact laws_request hcore hfull hreq
  | none =>
    cases c with
    | unknownRequest kind r => exact ⟨_, rfl, halike (alike_respond s r kind _).ite⟩
    | badFrame f => exact ⟨_, rfl, halike (alike_countBadFrame s _).ite⟩
    | frameLengthOver f =>
      exact ⟨_, rfl, halike ((alike_countBadFrame s _).trans (alike_setIgnoring _ _ _)).ite⟩
    | linkIdleTimeout f =>
      refine ⟨_, rfl, ?_⟩
      split
      · exact halike (alike_setIgnoring s _ _)
      · exact halike (alike_countBadFrame s _).ite
    | responseSent p => exact ⟨_, rfl, halike (alike_sendOut s p)⟩
    | hello b x | matchReply b x | rangeReply b x | presence b x | unknownKindBurst b _ x | badBurst b _ x =>
      exact ⟨_, rfl, (laws_receive hcore hfull b x).under⟩
    | closedLaneBurst b _ x => exact ⟨_, rfl, halike (alike_ignoreBurst s b x)⟩
    | openCallDue b => exact hruns (alike_openCallDue s b)
    | openCallEnd b => exact hruns (alike_openCallEnd s b)
    | matchListenEnd b => exact hworks (laws_matchListenEnd hcore b)
    | rangeListenTimeout b => exact hworks (laws_rangeListenTimeout hcore b)
    | rangeCounterOverflow b => exact hruns (alike_rangeOverflow s b)
    | admitWaitExpiry b => exact hworks (laws_admitWaitExpiry hcore b)
    | frameMark => exact hworks (laws_frameMark hcore)
    | traceStep => exact hruns (alike_traceStep s)
    | waitTraceCountDone b =>
      refine laws_whileRunning (act := fun s => if s.countDone b then s.enterMatch b else s) hcore fun _ => ?_
      split
      · exact laws_enterMatch hcore b
      · exact .refl hcore
    | presenceTick => exact hworks (laws_presenceTick hcore)
    | silenceLimitReached d => exact hworks (laws_silenceIfDue hcore d)
    | minuteTick => exact hworks (laws_minuteTick hcore)
    | arrivalAgeOut b n => exact hruns (alike_ageOut s b n)
    | claimLapse d =>
      refine laws_whileRunning (act := fun s => match s.leaseOut d with | some f => s.revokeClaim f d | none => s) hcore
        fun _ => ?_
      cases s.leaseOut d with
      | some f => exact laws_revokeClaim hcore f d
      | none => exact .refl hcore
    | storeWriteComplete => exact hworks (laws_storeWriteComplete hcore)
    | startupScanEnd =>
      refine ⟨_, rfl, ?_⟩
      split
      next hscan => exact laws_finishScan hscan hcore hintake
      next => exact .refl hcore
    | supplyLevel v => exact ⟨_, rfl, laws_takeLevel hcore v⟩
    | pinAssert =>
      refine ⟨_, rfl, ?_⟩
      split
      · exact .refl hcore
      · exact (laws_takeReset _ s).under
    | pinRelease => exact ⟨_, rfl, halike (alike_pinRelease s)⟩
    | _ => cases hreq

/-- Every step keeps the laws, but that it takes the command from the queue, which no law reads. -/
theorem step_keepsLaws {s t : State} (hinv : s.JobInv) (h : step s = .next t) :
    ∃ cs, KeptUnder s.ModeInv { s with pending := cs } t := by
  cases hpending : s.pending with
  | nil =>
    rw [step_nil s hpending] at h
    cases h
    refine ⟨[], ?_⟩
    rw [← hpending]
    exact ((alike_timePasses s).kept (jobInv_iff.mp hinv).1).under
  | cons c cs =>
    rw [step_cons s c cs hpending] at h
    obtain ⟨u, hu, hkept⟩ := exec_keepsLaws (s := { s with pending := cs }) c hinv
    rw [hu] at h
    cases h
    exact ⟨cs, hkept⟩

end

/-- Settles O54: the core laws go on through every step, and the bounds on the queues beside modes that keep together. -/
theorem stepKeepsJobLaws : Obligations.StepKeepsJobLaws := by
  intro s t hinv hmode hstep
  obtain ⟨cs, hkept⟩ := step_keepsLaws hinv hstep
  obtain ⟨-, hfull, hintake⟩ := jobInv_iff.mp hinv
  exact jobInv_iff.mpr ⟨hkept.core, hkept.full hmode hfull, hkept.intake hmode hintake⟩

/-- Settles O55. -/
theorem stepKeepsSerialAndPresenceLaws : Obligations.StepKeepsSerialAndPresenceLaws := by
  refine ⟨fun s t hinv hserial hstep => ?_, fun s t hinv hpresence hstep => ?_⟩
  · obtain ⟨cs, hkept⟩ := step_keepsLaws hinv hstep
    exact hkept.serial hserial
  · obtain ⟨cs, hkept⟩ := step_keepsLaws hinv hstep
    exact hkept.presence hpresence

/-- Settles O56. -/
theorem stepKeepsGeneratorLaws : Obligations.StepKeepsGeneratorLaws := by
  intro s t hinv hgen hstep
  obtain ⟨cs, hkept⟩ := step_keepsLaws hinv hstep
  exact hkept.gen hgen

end Sys2Proof.Machine
